-- ==== Sys2Proof/Word.lean ====
section
/-!
DEFINITION. The widths of the block's registers and port vectors (spec/00_scope.md R9, R10).

Bit 0 is the least significant bit and every value is unsigned (R17). The block's data are the 8-bit mask, small counters and 8-bit
port vectors (R21), and no register or port value is wider than a byte (spec/20_memory.md R72).
-/

namespace Sys2Proof

/-- An 8-bit value: `MASK`, a counter, or a port vector whose bit j belongs to port line j (R9, R10). -/
abbrev Byte := BitVec 8

/-- The 4-bit operation word `OPW` of a step (spec/30_encoding.md R96). -/
abbrev Opw := BitVec 4

/-- The 3-bit controller-state code `CTRL_STATE` (spec/30_encoding.md R95). -/
abbrev CtrlCode := BitVec 3

end Sys2Proof
end

