-- ==== Sys2Proof/Config.lean ====
section
/-!
DEFINITION. The parameters of the block (spec/00_scope.md section 4) and the free values of its inputs.

`Config` is one full set of parameters. Which sets a model refuses is WellFormed.lean's. The `opaque` constants have no body,
so no proof can learn a value of theirs: what is proved holds whatever they are.
-/

namespace Sys2Proof

/-- One entry of `PHASE_TABLE`: the mask bit tested in the phase, and the shared lines driven high and low (R15). -/
structure PhaseEntry where
  maskBit : Fin 8
  high    : Fin 4
  low     : Fin 4
  deriving DecidableEq, Repr, Inhabited

/-- `MASK_STEP_KIND`: how the scheduler steps the mask (R16). -/
inductive MaskStepKind where
  | rotate
  | shiftFill
  deriving DecidableEq, Repr, Inhabited

/-- The timer as the block sees it: `TMR_WIDTH`, 8 (R13) or more (spec/60_exceptions.md R211), and `TMR_MSB_BIT`, the bit the block
samples, 7 unless the configuration says otherwise (R211). That the width is at least 8 and the bit one of the counter's is in
the type (DESIGN CHOICE, safe: log 11). -/
structure Timer where
  width  : Nat := 8
  wide   : 8 ≤ width := by decide
  msbBit : Fin width := ⟨7, wide⟩
  deriving DecidableEq, Repr

/-- The parameters of the block. The fields without a default are the ones the spec leaves OPEN
(`SHARED_LINE_BIT` R14, `PHASE_TABLE` R15, `SETTLE_RAW` R12); the defaults are the spec's (R11, R16, R13). -/
structure Config where
  sharedLineBit : Vector (Fin 8) 4
  phaseTable    : Vector PhaseEntry 8
  stepDelay     : Byte := 64#8
  settleRaw     : Int
  maskStepKind  : MaskStepKind := .rotate
  timer         : Timer := {}
  deriving DecidableEq, Repr

/-- The example configuration EX of spec/95_test_vectors.md section 1. It is an illustration and not the board's wiring:
the tests use it, and it shows that a well-formed configuration exists. -/
def Config.ex : Config where
  sharedLineBit := #v[0, 1, 2, 4]
  phaseTable := #v[⟨0, 0, 1⟩, ⟨1, 1, 0⟩, ⟨2, 1, 2⟩, ⟨3, 2, 1⟩, ⟨4, 2, 3⟩, ⟨5, 3, 2⟩, ⟨6, 0, 2⟩, ⟨7, 2, 0⟩]
  settleRaw := 2

/-- FREE VALUE. What `LAT` holds after a reset, by the number of the draw (spec/10_state.md R38; DESIGN CHOICE in its form, safe: log 5). -/
opaque Config.freeLat : Nat → Byte

/-- FREE VALUE. Whether `RST` is asserted at a step, by the number of the draw (spec/70_reset_and_hazards.md R231; DESIGN CHOICE
in its form, safe: log 4). -/
opaque Config.freeRst : Nat → Bool

/-- FREE VALUE. The value of the timer at a step, before it is cut to `TMR_WIDTH` bits, by the number of the draw (spec/20_memory.md R76; DESIGN CHOICE in its
form, safe: log 3). -/
opaque Config.freeTmr : Nat → Nat

end Sys2Proof
end

