-- ==== Sys2Proof/Syntax.lean ====
section
/-!
DEFINITION. The micro-operations of the block: one constructor per row of spec/opcode_table.json.

No micro-operation has operand fields (spec/30_encoding.md R97): each takes its operands from fixed registers, from
`PHASE_TABLE` and from the timer input.
-/

namespace Sys2Proof

/-- The eight operations a step can perform (spec/30_encoding.md R95, R96). None is a floating-point, vector or packed operation
(spec/00_scope.md R21). -/
inductive Instr where
  /-- `SET.POLL`, the power-on settle wait (R150). -/
  | setPoll
  /-- `DRV.SEL`, advance the phase and test the mask bit (R120). -/
  | drvSel
  /-- `DRV.OFF`, all shared lines to input (R124). -/
  | drvOff
  /-- `DRV.LVL`, set the output levels on the latch (R127). -/
  | drvLvl
  /-- `DRV.EN`, switch the two lines of the phase to output (R130). -/
  | drvEn
  /-- `SCH.POLL`, sample the timer bit and count toggles (R154). -/
  | schPoll
  /-- `SCH.STEP`, step the mask and reload the countdown (R157). -/
  | schStep
  /-- `RESET`, whatever `CTRL_STATE` holds (R230). -/
  | reset
  deriving DecidableEq, Repr, Inhabited

/-- The mnemonic of spec/30_encoding.md R101. -/
def Instr.mnemonic : Instr → String
  | .setPoll => "SET.POLL"
  | .drvSel  => "DRV.SEL"
  | .drvOff  => "DRV.OFF"
  | .drvLvl  => "DRV.LVL"
  | .drvEn   => "DRV.EN"
  | .schPoll => "SCH.POLL"
  | .schStep => "SCH.STEP"
  | .reset   => "RESET"

end Sys2Proof
end

