-- ==== Sys2Proof/WellFormed.lean ====
section
/-!
DEFINITION. What a model refuses before any step is taken: ill-formed configurations (spec/60_exceptions.md R204), and the
reserved operation word (spec/30_encoding.md R99).

An instruction has no operand fields (R97), so no instruction is ill-formed. A `Board` carries the proof that its
configuration passes every check, so a refused configuration has no runs at all.
-/

namespace Sys2Proof

/-- The four shared lines have distinct port bits (R14). That each is in 0..7 is in the type. -/
abbrev Config.LinesDistinct (c : Config) : Prop :=
  ∀ j k : Fin 4, c.sharedLineBit[j] = c.sharedLineBit[k] → j = k

/-- WF1: in every entry the high line is not the low line (R15). -/
abbrev Config.HighNotLow (c : Config) : Prop :=
  ∀ p : Fin 8, c.phaseTable[p].high ≠ c.phaseTable[p].low

/-- WF2: `maskBit` is a bijection from phases to mask bits (R15). -/
abbrev Config.MaskBitsBijective (c : Config) : Prop :=
  (∀ p q : Fin 8, c.phaseTable[p].maskBit = c.phaseTable[q].maskBit → p = q) ∧
    ∀ m : Fin 8, ∃ p : Fin 8, c.phaseTable[p].maskBit = m

/-- WF3: the ordered pairs (high, low) are pairwise distinct (R15). -/
abbrev Config.PairsDistinct (c : Config) : Prop :=
  ∀ p q : Fin 8, c.phaseTable[p].high = c.phaseTable[q].high → c.phaseTable[p].low = c.phaseTable[q].low → p = q

/-- `STEP_DELAY` is in 1..255 (R11). The upper bound is in the type. -/
abbrev Config.StepDelayInRange (c : Config) : Prop := c.stepDelay ≠ 0#8

/-- The checks of R204 together. `SETTLE_RAW` is clamped and never refused, so no check is about it (R12). -/
abbrev Config.WellFormed (c : Config) : Prop :=
  c.LinesDistinct ∧ c.HighNotLow ∧ c.MaskBitsBijective ∧ c.PairsDistinct ∧ c.StepDelayInRange

/-- A block as built: a configuration that passes the checks of R204. -/
structure Board where
  config : Config := Config.ex
  wf     : config.WellFormed := by decide
  deriving DecidableEq, Repr, Inhabited

/-- OPEN. The configuration of the board, of which the spec gives only that it passes the checks of R204
(R12, R14, R15; DESIGN CHOICE in its form, safe: log 1). It has no body: nothing about its lines, its table or its
`SETTLE_RAW` can be proved. -/
opaque Config.openBoard : Board

/-- The board of `State.reset`: the OPEN parameters of `Config.openBoard`, with the values the spec gives to the others,
`STEP_DELAY` = 64 (R11), `MASK_STEP_KIND` = `ROTATE` (R16) and an 8-bit timer sampled at bit 7 (R13; DEDUCED, unsafe on a board built
with other values: log 2). -/
def Config.board : Board where
  config := { Config.openBoard.config with stepDelay := 64#8, maskStepKind := .rotate, timer := {} }
  wf := ⟨Config.openBoard.wf.1, Config.openBoard.wf.2.1, Config.openBoard.wf.2.2.1, Config.openBoard.wf.2.2.2.1,
    by decide⟩

/-- Why a configuration is refused, one name for each check of R204. -/
inductive ConfigRefusal where
  /-- A shared line's bit is outside 0..7 (R14). Safe: no run exists. -/
  | lineOutsidePort
  /-- Two shared lines have one port bit (R14). Safe: no run exists. -/
  | linesRepeat
  /-- A phase-table field is outside its range (R15). Safe: no run exists. -/
  | entryOutOfRange
  /-- WF1 fails (R15). Safe: no run exists. -/
  | highIsLow
  /-- WF2 fails (R15). Safe: no run exists. -/
  | maskBitsNotBijective
  /-- WF3 fails (R15). Safe: no run exists. -/
  | pairsRepeat
  /-- `STEP_DELAY` is outside 1..255 (R11). Safe: no run exists. -/
  | stepDelayOutOfRange
  deriving DecidableEq, Repr

/-- An operation word that names an operation: every one but the reserved 0b0111 (R99). -/
abbrev Opw.Legal (w : Opw) : Prop := w ≠ 0b0111#4

end Sys2Proof
end

