-- ==== Sys2Proof/Decode.lean ====
section
/-!
DEFINITION. The operation word and the packed table entry, both ways (spec/30_encoding.md R94 to R100).

The block fetches no instruction: the word is `OPW` = {`RST`, `CTRL_STATE`}, formed from the reset input and the controller
state (R90, R96). Every word is decoded or refused by name.
-/

namespace Sys2Proof

/-- Why a word names no operation. -/
inductive DecodeRefusal where
  /-- `OPW` = 0b0111, `CTRL_STATE` = 7 without reset (R99). The step faults on it (R203). -/
  | reservedCtrlState
  /-- The number does not fit the 4 bits of `OPW` (R90). No step can meet it, since the block forms its own word. -/
  | notAnOpw
  deriving DecidableEq, Repr

/-- `OPW[3:0]` = {`RST`, `CTRL_STATE[2:0]`} (R96). -/
def opwOf (rst : Bool) (c : CtrlCode) : Opw := BitVec.ofBool rst ++ c

/-- `OPW[3]`, the reset input (R96). -/
def opwRst (w : Opw) : Bool := w.getLsbD 3

/-- `OPW[2:0]`, the controller state (R96). -/
def opwCtrl (w : Opw) : CtrlCode := w.extractLsb' 0 3

/-- The controller-state table of R95. -/
def decodeCtrl (c : CtrlCode) : Except DecodeRefusal Instr :=
  if c = 0b000#3 then .ok .setPoll
  else if c = 0b001#3 then .ok .drvSel
  else if c = 0b010#3 then .ok .drvOff
  else if c = 0b011#3 then .ok .drvLvl
  else if c = 0b100#3 then .ok .drvEn
  else if c = 0b101#3 then .ok .schPoll
  else if c = 0b110#3 then .ok .schStep
  else .error .reservedCtrlState

/-- The decoder of R96: reset is decoded first, whatever `CTRL_STATE` holds. -/
def decode (w : Opw) : Except DecodeRefusal Instr :=
  if opwRst w then .ok .reset else decodeCtrl (opwCtrl w)

/-- The word of an operation (R95, R96). `RESET` has eight words: this one has 0 in the bits it ignores (DESIGN CHOICE, safe:
log 13). -/
def encode : Instr → Opw
  | .setPoll => 0b0000#4
  | .drvSel  => 0b0001#4
  | .drvOff  => 0b0010#4
  | .drvLvl  => 0b0011#4
  | .drvEn   => 0b0100#4
  | .schPoll => 0b0101#4
  | .schStep => 0b0110#4
  | .reset   => 0b1000#4

/-- A row of the opcode table: the words w with w & `mask` = `pattern` stand for `instr`. -/
structure OpcodeRow where
  mask    : Opw
  pattern : Opw
  instr   : Instr
  deriving DecidableEq, Repr

/-- The match and mask of each operation, as spec/opcode_table.json has them. -/
def opcodeRow : Instr → OpcodeRow
  | .setPoll => ⟨0b1111#4, 0b0000#4, .setPoll⟩
  | .drvSel  => ⟨0b1111#4, 0b0001#4, .drvSel⟩
  | .drvOff  => ⟨0b1111#4, 0b0010#4, .drvOff⟩
  | .drvLvl  => ⟨0b1111#4, 0b0011#4, .drvLvl⟩
  | .drvEn   => ⟨0b1111#4, 0b0100#4, .drvEn⟩
  | .schPoll => ⟨0b1111#4, 0b0101#4, .schPoll⟩
  | .schStep => ⟨0b1111#4, 0b0110#4, .schStep⟩
  | .reset   => ⟨0b1000#4, 0b1000#4, .reset⟩

/-- The word is one of the row's words. -/
abbrev OpcodeRow.Holds (r : OpcodeRow) (w : Opw) : Prop := w &&& r.mask = r.pattern

/-- Decoding of a number: refused when it does not fit `OPW`. -/
def decodeNat (n : Nat) : Except DecodeRefusal Instr :=
  if n < 16 then decode (BitVec.ofNat 4 n) else .error .notAnOpw

/-- The instruction of a table word: the low `nbits` bits of `w` are the row's bits, and every bit above them is 0
(DESIGN CHOICE, safe: log 14). -/
def decodeTableWord (nbits w : Nat) : Option Instr :=
  match decodeNat (w % 2 ^ nbits) with
  | .ok i => some i
  | .error _ => none

/-- A phase-table entry packed into 7 bits: [6:4] `maskBit`, [3:2] `high`, [1:0] `low` (R94). -/
def packEntry (e : PhaseEntry) : BitVec 7 :=
  BitVec.ofFin (w := 3) e.maskBit ++ BitVec.ofFin (w := 2) e.high ++ BitVec.ofFin (w := 2) e.low

/-- The entry a packed word holds (R94). -/
def unpackEntry (w : BitVec 7) : PhaseEntry where
  maskBit := (w.extractLsb' 4 3).toFin
  high := (w.extractLsb' 2 2).toFin
  low := (w.extractLsb' 0 2).toFin

end Sys2Proof
end

