-- ==== Sys2Proof/Machine/Operands.lean ====
section
/-!
DEFINITION. Operand assembly: what the micro-operations read from the configuration (spec/30_encoding.md R92, R97, R103), the
mask-step function (spec/41_scheduler.md R160), the served phase (spec/40_driver.md R120), and the values fixed when the block
is built (spec/00_scope.md R12, spec/60_exceptions.md R204).
-/

namespace Sys2Proof

/-- `PHASE_TABLE[p]` (R43). -/
def Config.entry (c : Config) (p : Fin 8) : PhaseEntry := c.phaseTable[p]

/-- `SHARED_LINE_BIT[k]`, the port bit of shared line k (R14). -/
def Config.portBit (c : Config) (k : Fin 4) : Nat := (c.sharedLineBit[k]).val

/-- `LINEMASK(k)` (R92). -/
def Config.lineMask (c : Config) (k : Fin 4) : Byte := 1#8 <<< c.portBit k

/-- `SHARED_MASK` (R92). -/
def Config.sharedMask (c : Config) : Byte := c.lineMask 0 ||| c.lineMask 1 ||| c.lineMask 2 ||| c.lineMask 3

/-- `PAIR(p)` (R92). -/
def Config.pair (c : Config) (p : Fin 8) : Byte := c.lineMask (c.entry p).high ||| c.lineMask (c.entry p).low

/-- `OFF_VEC`: every line an input (R92). -/
def offVec : Byte := 0xFF#8

/-- `EN_VEC(p)`: the two lines of phase p outputs (R92). -/
def Config.enVec (c : Config) (p : Fin 8) : Byte := offVec &&& ~~~(c.pair p)

/-- `LVL_VEC(p)`: the high line of phase p at 1, every other bit at 0 (R92). -/
def Config.lvlVec (c : Config) (p : Fin 8) : Byte := c.lineMask (c.entry p).high

/-- The per-phase table of pin-drive vectors, (`EN_VEC(p)`, `LVL_VEC(p)`) for p = 0..7 (R103). -/
def Config.vectorTable (c : Config) : List (Byte × Byte) :=
  (List.finRange 8).map fun p => (c.enVec p, c.lvlVec p)

/-- The step of the mask before the all-zero case is replaced: an 8-bit rotate or shift left by one (R160). -/
def Config.maskShift (c : Config) (m : Byte) : Byte :=
  match c.maskStepKind with
  | .rotate => (m <<< 1) ||| (m >>> 7)
  | .shiftFill => m <<< 1

/-- `MaskStep(m)` (R160). -/
def Config.maskStep (c : Config) (m : Byte) : Byte := if c.maskShift m = 0#8 then 0x01#8 else c.maskShift m

/-- The phase that `DRV.SEL` serves when `PHASE_CNT` holds c: 0 when the decrement reaches 0 or less, else c - 1 (R120). -/
def servedPhase (c : BitVec 4) : BitVec 3 := if c ≤ 1#4 then 0#3 else (c - 1#4).setWidth 3

/-- What `DRV.SEL` leaves in `PHASE_CNT`: the ceiling 8 after phase 0, else the phase it served (R120). -/
def nextPhaseCnt (c : BitVec 4) : BitVec 4 := if c ≤ 1#4 then 8#4 else (servedPhase c).setWidth 4

/-- Bit `TMR_MSB_BIT` of a timer value (spec/00_scope.md R13, spec/60_exceptions.md R211). -/
def Timer.bit (t : Timer) (v : Nat) : Bool := v.testBit t.msbBit

/-- A value cut to the counter's `TMR_WIDTH` bits. -/
def Timer.cut (t : Timer) (v : Nat) : Nat := v % 2 ^ t.width

/-- `SETTLE_TOGGLES` = clamp(`SETTLE_RAW`, 1, 255) (R12). It is written as one more than a number in 0..254, so that it is
seen not to be 0 whatever `SETTLE_RAW` is: `Obligations.SettleTogglesClamped` states R12's own form
(DEDUCED, safe: log 15). -/
def Config.settleToggles (c : Config) : Byte :=
  BitVec.ofNatLT (min (c.settleRaw - 1).toNat 254 + 1) (by omega)

/-- `CONFIG_CLAMPED`: the build raises it when the clamp changes `SETTLE_RAW` (R12, spec/70_reset_and_hazards.md R235). -/
def Config.clamped (c : Config) : Bool := decide (c.settleRaw < 1 ∨ 255 < c.settleRaw)

/-- The arguments of a build, as plain numbers (spec/00_scope.md section 4). -/
structure ConfigArgs where
  sharedLineBit : Fin 4 → Nat
  maskBit       : Fin 8 → Nat
  high          : Fin 8 → Nat
  low           : Fin 8 → Nat
  stepDelay     : Nat := 64
  settleRaw     : Int
  maskStepKind  : MaskStepKind := .rotate
  timer         : Timer := {}

/-- Entry p of the arguments, for values in range. -/
def ConfigArgs.entry (a : ConfigArgs) (p : Fin 8) : PhaseEntry :=
  ⟨Fin.ofNat 8 (a.maskBit p), Fin.ofNat 4 (a.high p), Fin.ofNat 4 (a.low p)⟩

/-- The configuration the arguments give, for values in range. -/
def ConfigArgs.config (a : ConfigArgs) : Config where
  sharedLineBit := #v[Fin.ofNat 8 (a.sharedLineBit 0), Fin.ofNat 8 (a.sharedLineBit 1),
    Fin.ofNat 8 (a.sharedLineBit 2), Fin.ofNat 8 (a.sharedLineBit 3)]
  phaseTable := #v[a.entry 0, a.entry 1, a.entry 2, a.entry 3, a.entry 4, a.entry 5, a.entry 6, a.entry 7]
  stepDelay := BitVec.ofNat 8 a.stepDelay
  settleRaw := a.settleRaw
  maskStepKind := a.maskStepKind
  timer := a.timer

/-- Building a block: the checks of R204, each refusal under its own name, ranges first (DESIGN CHOICE, safe:
log 12). A `SETTLE_RAW` out of range is not refused (R12). -/
def ConfigArgs.build (a : ConfigArgs) : Except ConfigRefusal Board :=
  if ¬ ∀ k, a.sharedLineBit k < 8 then .error .lineOutsidePort
  else if ¬ ∀ p, a.maskBit p < 8 ∧ a.high p < 4 ∧ a.low p < 4 then .error .entryOutOfRange
  else if a.stepDelay < 1 ∨ 255 < a.stepDelay then .error .stepDelayOutOfRange
  else if h : a.config.WellFormed then .ok ⟨a.config, h⟩
  else if ¬ a.config.LinesDistinct then .error .linesRepeat
  else if ¬ a.config.HighNotLow then .error .highIsLow
  else if ¬ a.config.MaskBitsBijective then .error .maskBitsNotBijective
  else if ¬ a.config.PairsDistinct then .error .pairsRepeat
  else .error .stepDelayOutOfRange

end Sys2Proof
end

