-- ==== Sys2Proof/Machine/State.lean ====
section
/-!
DEFINITION. The state of the block, plain data (spec/10_state.md), the reasons a step can stop (spec/60_exceptions.md R201),
and the state after reset (spec/70_reset_and_hazards.md R230).
-/

namespace Sys2Proof.Machine

/-- An event of the history (spec/00_scope.md R18, R19). `MASK` writes are no events (R157; DESIGN CHOICE, safe: log 9). -/
inductive Event where
  | reset
  | shadowWrite (v : Byte)
  | dirWrite (v : Byte)
  | latWrite (v : Byte)
  | tmrSample (b : Bool)
  deriving DecidableEq, Repr

/-- The drive state of a line: high impedance, or a driven level (spec/30_encoding.md R93). -/
inductive Drive where
  | z
  | level (b : Bool)
  deriving DecidableEq, Repr

/-- `S_SETTLE` (spec/30_encoding.md R95). -/
@[simp] abbrev sSettle : CtrlCode := 0b000#3
/-- `S_DRV_SEL` (R95). -/
@[simp] abbrev sDrvSel : CtrlCode := 0b001#3
/-- `S_DRV_OFF` (R95). -/
@[simp] abbrev sDrvOff : CtrlCode := 0b010#3
/-- `S_DRV_LVL` (R95). -/
@[simp] abbrev sDrvLvl : CtrlCode := 0b011#3
/-- `S_DRV_EN` (R95). -/
@[simp] abbrev sDrvEn : CtrlCode := 0b100#3
/-- `S_SCH_POLL` (R95). -/
@[simp] abbrev sSchPoll : CtrlCode := 0b101#3
/-- `S_SCH_STEP` (R95). -/
@[simp] abbrev sSchStep : CtrlCode := 0b110#3

/-- The whole machine. The registers are those of spec/10_state.md section 1, with no data wider than the 8-bit mask, the counters
and the 8-bit port vectors (spec/00_scope.md R21); then come the input lines of R47 at the next step,
and the event history of spec/00_scope.md R19, oldest event first (DESIGN CHOICE, safe: log 9).
`board` and `drawNo` are the model's own: the configuration the block was built with, which no step writes (R43; DESIGN CHOICE,
safe: log 1), and the number of the next free draw (DESIGN CHOICE, safe: log 6). -/
structure State where
  ctrlState : CtrlCode
  mask      : Byte
  phaseCnt  : BitVec 4
  selPhase  : BitVec 3
  selLit    : Bool
  dirShadow : Byte
  dir       : Byte
  lat       : Byte
  toggleCnt : Byte
  settleCnt : Byte
  lastMsb   : Bool
  rst       : Bool
  tmr       : Nat
  history   : List Event
  board     : Board
  drawNo    : Nat
  deriving DecidableEq, Repr

/-- The four fault reasons of spec/60_exceptions.md R201. Each records the whole state, which the faulting step did not change,
and each is final: an outcome that is a fault has no successor (R202; DEDUCED, safe: log 8). All are safe: the hardware has no
such faults, and a model raises one only in a state that is not reachable from reset. -/
inductive Fault where
  /-- Raised by the step dispatch when `CTRL_STATE` = 7 and `RST` = 0 (R203). Safe. -/
  | reservedCtrlState (at_ : State)
  /-- Raised by `DRV.SEL` when `PHASE_CNT` is 9..15 (R120). Safe. -/
  | phaseCounterReserved (at_ : State)
  /-- Raised by `SET.POLL` when `SETTLE_CNT` = 0 (R150). Safe. -/
  | settleCounterZero (at_ : State)
  /-- Raised by `SCH.POLL` when `TOGGLE_CNT` = 0 (R154). Safe. -/
  | toggleCounterZero (at_ : State)
  deriving DecidableEq, Repr

/-- Why a step has no meaning. Every operation of the table has its meaning, so no step answers this. -/
inductive Refusal where
  /-- Raised by an arm of `exec` whose operation has no meaning yet: no arm is left so. Safe. -/
  | notModelled (mnemonic : String)
  deriving DecidableEq, Repr

/-- A block right after power-up, which is a `RESET` (spec/70_reset_and_hazards.md R230, R231), built on `b`. `LAT` and the inputs
are free draws (spec/10_state.md R38, spec/20_memory.md R76, R231; DESIGN CHOICE and DEDUCED, safe:
logs 3 to 7). -/
def State.powerUp (b : Board) : State where
  ctrlState := sSettle
  mask := 0x00#8
  phaseCnt := 0#4
  selPhase := 0#3
  selLit := false
  dirShadow := 0xFF#8
  dir := 0xFF#8
  lat := Config.freeLat 0
  toggleCnt := b.config.stepDelay
  settleCnt := b.config.settleToggles
  lastMsb := false
  rst := Config.freeRst 0
  tmr := b.config.timer.cut (Config.freeTmr 0)
  history := [.reset]
  board := b
  drawNo := 1

/-- The machine right after reset, on the board whose OPEN parameters are left open (DESIGN CHOICE, safe: log 1). -/
def State.reset : State := State.powerUp Config.board

end Sys2Proof.Machine
end

