-- ==== Sys2Proof/Machine/Ops.lean ====
section
/-!
DEFINITION. The named operations over registers, events and inputs (spec/00_scope.md R18), which the meanings are built from.

The block takes no exception and returns from none (spec/60_exceptions.md R207, R208), and it has no memory (spec/20_memory.md R70):
there is no operation for either.
-/

namespace Sys2Proof.Machine

/-- The outcome of a step of this machine. -/
abbrev Result := Host.Outcome State Fault Refusal

/-- Record an event at the end of the history (R19). -/
def State.record (s : State) (e : Event) : State := { s with history := s.history ++ [e] }

/-- `next <- c` (R18). -/
def State.goto (s : State) (c : CtrlCode) : State := { s with ctrlState := c }

/-- `WriteShadow(v)` (R18). -/
def State.writeShadow (s : State) (v : Byte) : State := { s with dirShadow := v }.record (.shadowWrite v)

/-- `WriteDIR(v)` (R18). -/
def State.writeDir (s : State) (v : Byte) : State := { s with dir := v }.record (.dirWrite v)

/-- `WriteLAT(v)` (R18). -/
def State.writeLat (s : State) (v : Byte) : State := { s with lat := v }.record (.latWrite v)

/-- A direction change: the shadow first, then the physical register, with the same value
(spec/10_state.md R39, spec/20_memory.md R80). -/
def State.setDirection (s : State) (v : Byte) : State := (s.writeShadow v).writeDir v

/-- `MASK <- v`. -/
def State.setMask (s : State) (v : Byte) : State := { s with mask := v }

/-- `PHASE_CNT <- c`. -/
def State.setPhaseCnt (s : State) (c : BitVec 4) : State := { s with phaseCnt := c }

/-- `SEL_PHASE <- p` and `SEL_LIT <- lit`. -/
def State.setSelection (s : State) (p : BitVec 3) (lit : Bool) : State := { s with selPhase := p, selLit := lit }

/-- `TOGGLE_CNT <- v`. -/
def State.setToggleCnt (s : State) (v : Byte) : State := { s with toggleCnt := v }

/-- `SETTLE_CNT <- v`. -/
def State.setSettleCnt (s : State) (v : Byte) : State := { s with settleCnt := v }

/-- `LAST_MSB <- b`. -/
def State.setLastMsb (s : State) (b : Bool) : State := { s with lastMsb := b }

/-- Bit `TMR_MSB_BIT` of the timer input (spec/00_scope.md R13, spec/60_exceptions.md R211). -/
def State.timerBit (s : State) : Bool := s.board.config.timer.bit s.tmr

/-- `SampleTMR()`: the sample is `s.timerBit`, and the event is recorded (R18, spec/20_memory.md R76). -/
def State.sampleTmr (s : State) : State := s.record (.tmrSample s.timerBit)

/-- The register writes of `RESET`, with `lat` the draw for `LAT`, and its event (spec/70_reset_and_hazards.md R230). The
configuration is not state of the block and the input lines are not the block's, so none of them changes. -/
def State.resetRegisters (s : State) (lat : Byte) : State :=
  { s with
    mask := 0x00#8
    phaseCnt := 0#4
    selPhase := 0#3
    selLit := false
    dirShadow := 0xFF#8
    dir := 0xFF#8
    lat := lat
    toggleCnt := s.board.config.stepDelay
    settleCnt := s.board.config.settleToggles
    lastMsb := false }.record .reset

/-- The operation word of the next step (spec/30_encoding.md R96). -/
def State.opw (s : State) : Opw := opwOf s.rst s.ctrlState

/-- The state with the input lines at the given levels: what `Step(state, RST, tmr)` of spec/42_sequencer.md R181 takes. The
timer's value has `TMR_WIDTH` bits (spec/00_scope.md R13). -/
def State.withInputs (s : State) (rst : Bool) (tmr : Nat) : State :=
  { s with rst := rst, tmr := s.board.config.timer.cut tmr }

/-- After a step the environment presents the inputs of the next one, both free (R76, R231), and the draw is used up
(DESIGN CHOICE, safe: logs 3, 4 and 6). -/
def State.presentInputs (s : State) : State :=
  { s.withInputs (Config.freeRst s.drawNo) (Config.freeTmr s.drawNo) with drawNo := s.drawNo + 1 }

/-- What a step makes of an operation's outcome: a next state is given the inputs of the step after it. -/
def finishStep : Result → Result
  | .next t => .next t.presentInputs
  | .fault f => .fault f
  | .refused r => .refused r

/-- The state whose next step has the operation word w: the word stands in `RST` and `CTRL_STATE` (R96). -/
def State.placeOpw (s : State) (w : Opw) : State := { s with rst := opwRst w, ctrlState := opwCtrl w }

end Sys2Proof.Machine
end

