-- ==== Sys2Proof/Machine/Flags.lean ====
section
/-!
DEFINITION. The block's one stored flag, and the conditions computed within a step (spec/10_state.md R35, R45).
-/

namespace Sys2Proof.Machine

/-- The phase of `SEL_PHASE` as an index of the phase table (R34). -/
def State.phase (s : State) : Fin 8 := s.selPhase.toFin

/-- The mask bit that phase p tests, `MASK[PHASE_TABLE[p].maskBit]`: what `DRV.SEL` stores in `SEL_LIT` (spec/40_driver.md R120). -/
def State.maskBitOf (s : State) (p : BitVec 3) : Bool := s.mask.getLsbD (s.board.config.entry p.toFin).maskBit

/-- A toggle: the sampled bit differs from `LAST_MSB`, either edge (spec/41_scheduler.md R155). -/
def State.toggled (s : State) : Bool := s.timerBit != s.lastMsb

end Sys2Proof.Machine
end

