-- ==== Sys2Proof/Machine/Outputs.lean ====
section
/-!
DEFINITION. The block's outputs (spec/10_state.md R46), computed from its registers.

`DIR` and `LAT` are fields of the state. A level may be read from a line only through `PIN` (spec/40_driver.md R129).
-/

namespace Sys2Proof.Machine

/-- `PIN[k]` (spec/30_encoding.md R93): what the block drives on line k (DEDUCED, safe: log 10). -/
def State.pin (s : State) (k : Fin 4) : Drive :=
  if s.dir.getLsbD (s.board.config.portBit k) then .z
  else .level (s.lat.getLsbD (s.board.config.portBit k))

/-- The output `PHASE[2:0]` (R46). -/
def State.phaseOut (s : State) : BitVec 3 := s.selPhase

/-- How many shared lines are outputs (spec/40_driver.md R134). -/
def State.outputCount (s : State) : Nat :=
  (List.finRange 4).countP fun k => !s.dir.getLsbD (s.board.config.portBit k)

end Sys2Proof.Machine
end

