-- ==== Sys2Proof/Machine/Driver.lean ====
section
/-!
DEFINITION. The driver's four micro-operations (spec/40_driver.md).
-/

namespace Sys2Proof.Machine

/-- `DRV.SEL`: advance the phase and test the mask bit (R120). It records no event. -/
def execDrvSel (s : State) : Result :=
  if 9#4 ≤ s.phaseCnt then .fault (.phaseCounterReserved s)
  else
    .next (((s.setPhaseCnt (nextPhaseCnt s.phaseCnt)).setSelection (servedPhase s.phaseCnt)
      (s.maskBitOf (servedPhase s.phaseCnt))).goto sDrvOff)

/-- `DRV.OFF`: every shared line to input, then to `DRV.LVL` when the phase is lit (R124). -/
def execDrvOff (s : State) : Result :=
  .next ((s.setDirection (s.dirShadow ||| s.board.config.sharedMask)).goto (if s.selLit then sDrvLvl else sSchPoll))

/-- `DRV.LVL`: one full write of the latch with the levels of the phase (R127). -/
def execDrvLvl (s : State) : Result :=
  .next ((s.writeLat (s.board.config.lvlVec s.phase)).goto sDrvEn)

/-- `DRV.EN`: both lines of the phase to output in one write (R130, R131). -/
def execDrvEn (s : State) : Result :=
  .next ((s.setDirection (s.dirShadow &&& ~~~(s.board.config.pair s.phase))).goto sSchPoll)

end Sys2Proof.Machine
end

