-- ==== Sys2Proof/Machine/Reset.lean ====
section
/-!
DEFINITION. The `RESET` operation (spec/70_reset_and_hazards.md R230).
-/

namespace Sys2Proof.Machine

/-- `RESET`: every register to its reset value, `LAT` to a free draw, from every state (R230). -/
def execReset (s : State) : Result :=
  .next ((s.resetRegisters (Config.freeLat s.drawNo)).goto sSettle)

end Sys2Proof.Machine
end

