-- ==== Sys2Proof/Machine/Scheduler.lean ====
section
/-!
DEFINITION. The settle wait and the scheduler's two micro-operations (spec/41_scheduler.md).
-/

namespace Sys2Proof.Machine

/-- `SET.POLL`: sample the timer bit, count a toggle down, and leave the settle wait when the count reaches 0 (R150). The counter
is checked before the sample (spec/60_exceptions.md R206). -/
def execSetPoll (s : State) : Result :=
  if s.settleCnt = 0#8 then .fault (.settleCounterZero s)
  else .next <|
    if s.toggled then
      ((s.sampleTmr.setLastMsb s.timerBit).setSettleCnt (s.settleCnt - 1#8)).goto
        (if s.settleCnt - 1#8 = 0#8 then sDrvSel else sSettle)
    else s.sampleTmr.goto sSettle

/-- `SCH.POLL`: sample the timer bit, count a toggle down, and go to `SCH.STEP` when the count reaches 0 (R154). The counter is
checked before the sample (spec/60_exceptions.md R206). -/
def execSchPoll (s : State) : Result :=
  if s.toggleCnt = 0#8 then .fault (.toggleCounterZero s)
  else .next <|
    if s.toggled then
      ((s.sampleTmr.setLastMsb s.timerBit).setToggleCnt (s.toggleCnt - 1#8)).goto
        (if s.toggleCnt - 1#8 = 0#8 then sSchStep else sDrvSel)
    else s.sampleTmr.goto sDrvSel

/-- `SCH.STEP`: step the mask and reload the countdown (R157). It records no event. -/
def execSchStep (s : State) : Result :=
  .next (((s.setMask (s.board.config.maskStep s.mask)).setToggleCnt s.board.config.stepDelay).goto sDrvSel)

end Sys2Proof.Machine
end

