-- ==== Sys2Proof/Machine/Dispatch.lean ====
section
/-!
DEFINITION. One meaning per micro-operation (spec/42_sequencer.md R181).
-/

namespace Sys2Proof.Machine

def exec (i : Instr) (s : State) : Host.Outcome State Fault Refusal :=
  match i with
  | .setPoll => Sys2Proof.Machine.execSetPoll s
  | .drvSel => Sys2Proof.Machine.execDrvSel s
  | .drvOff => Sys2Proof.Machine.execDrvOff s
  | .drvLvl => Sys2Proof.Machine.execDrvLvl s
  | .drvEn => Sys2Proof.Machine.execDrvEn s
  | .schPoll => Sys2Proof.Machine.execSchPoll s
  | .schStep => Sys2Proof.Machine.execSchStep s
  | .reset => Sys2Proof.Machine.execReset s

end Sys2Proof.Machine
end

