-- ==== Sys2Proof/Machine/Step.lean ====
section
/-!
DEFINITION. The step function (spec/42_sequencer.md R181): one operation, chosen by the operation word, then the inputs of the
next step.
-/

namespace Sys2Proof.Machine

/-- One step. The reserved word faults with the whole state recorded (spec/60_exceptions.md R201, R203). -/
def step (s : State) : Host.Outcome State Fault Refusal :=
  match decode s.opw with
  | .ok i => finishStep (exec i s)
  | .error _ => .fault (.reservedCtrlState s)

/-- `Step(state, RST, tmr)` of R181: a step with the given input levels. -/
def stepWith (s : State) (rst : Bool) (tmr : Nat) : Host.Outcome State Fault Refusal := step (s.withInputs rst tmr)

/-- `s` with a table word where its next step takes its operation: the reset input and the controller state (DESIGN CHOICE,
safe: log 14). -/
def State.withFetchWord (s : State) (nbits w : Nat) : State := s.placeOpw (BitVec.ofNat 4 (w % 2 ^ nbits))

end Sys2Proof.Machine
end

