-- ==== Sys2Proof/Safety.lean ====
section
/-!
DEFINITION. What counts as a safe state and a safe history, and the runs that claims speak of.

A run is a list of inputs, one (`RST`, `TMR`) pair for each step, as in `Step(state, RST, tmr)` of spec/42_sequencer.md R181:
a claim about every such list is a claim about every run. The invariants say what the rules of the spec promise of every state
and history the block reaches (spec/10_state.md R36, R39 to R41 and R49; spec/40_driver.md R128, R132 to R137).
-/

namespace Sys2Proof.Machine

/-- The input levels of one step (spec/10_state.md R47). -/
structure Input where
  rst : Bool
  tmr : Nat
  deriving DecidableEq, Repr

/-- The timer bit a poll of a block with this configuration samples from these inputs (spec/00_scope.md R13). -/
def Input.bit (c : Config) (i : Input) : Bool := c.timer.bit i.tmr

/-- `RST` is not asserted in any of these steps. -/
abbrev Quiet (is : List Input) : Prop := ∀ i ∈ is, i.rst = false

/-- The run of the block from `s` under the inputs, one step for each. It ends at the first fault
(spec/60_exceptions.md R202). -/
def runWith : List Input → State → Result
  | [], s => .next s
  | i :: is, s =>
    match stepWith s i.rst i.tmr with
    | .next t => runWith is t
    | .fault f => .fault f
    | .refused r => .refused r

/-- What `f` reads after each step of the run that performs `op`, in order. -/
def collect {α : Type} (op : Instr) (f : State → α) : List Input → State → List α
  | [], _ => []
  | i :: is, s =>
    match stepWith s i.rst i.tmr with
    | .next t => if decode (s.withInputs i.rst i.tmr).opw = .ok op then f t :: collect op f is t else collect op f is t
    | .fault _ => []
    | .refused _ => []

/-- The operations the steps of the run perform, in order. -/
def opsOf : List Input → State → List Instr
  | [], _ => []
  | i :: is, s =>
    match decode (s.withInputs i.rst i.tmr).opw, stepWith s i.rst i.tmr with
    | .ok op, .next t => op :: opsOf is t
    | _, _ => []

/-- How many steps of the run perform `op` and observe a toggle. -/
def togglesAt (op : Instr) : List Input → State → Nat
  | [], _ => 0
  | i :: is, s =>
    match stepWith s i.rst i.tmr with
    | .next t =>
      (if decode (s.withInputs i.rst i.tmr).opw = .ok op ∧ (s.withInputs i.rst i.tmr).toggled then 1 else 0) +
        togglesAt op is t
    | .fault _ => 0
    | .refused _ => 0

/-- The toggles that successive samples show, when the bit at the last observed toggle was `last` (spec/41_scheduler.md R155). -/
def togglesIn : Bool → List Bool → Nat
  | _, [] => 0
  | last, b :: bs => (if b = last then 0 else 1) + togglesIn b bs

/-- The fairness assumption on the sampled bit, for liveness claims alone (spec/60_exceptions.md R210; DEDUCED,
safe: log 17). -/
def Fair (samples : Nat → Bool) : Prop := ∀ n, ∃ m, n ≤ m ∧ samples (m + 1) ≠ samples m

/-- The pseudo-operation `REFRESH` for a lit or a dark phase (spec/30_encoding.md R102). -/
def refreshOps (lit : Bool) : List Instr :=
  if lit then [.drvSel, .drvOff, .drvLvl, .drvEn] else [.drvSel, .drvOff]

/-- The pseudo-operation `ITER`: a refresh, a poll, and a mask step when the poll expires the countdown (R102). -/
def iterOps (lit expires : Bool) : List Instr :=
  refreshOps lit ++ .schPoll :: if expires then [.schStep] else []

/-- The pseudo-operation `SETTLE` with n samples (R102). -/
def settleOps (n : Nat) : List Instr := List.replicate n .setPoll

/-- A line of a trace: the mnemonic, and for a poll the sampled bit (spec/30_encoding.md R101). -/
def traceLine (i : Instr) (b : Bool) : String :=
  match i with
  | .setPoll => i.mnemonic ++ (if b then " t=1" else " t=0")
  | .schPoll => i.mnemonic ++ (if b then " t=1" else " t=0")
  | .drvSel | .drvOff | .drvLvl | .drvEn | .schStep | .reset => i.mnemonic

/-- The events of a refresh of phase p from a reachable state (spec/40_driver.md R132). -/
def refreshEvents (c : Config) (p : Fin 8) (lit : Bool) : List Event :=
  if lit then
    [.shadowWrite offVec, .dirWrite offVec, .latWrite (c.lvlVec p), .shadowWrite (c.enVec p), .dirWrite (c.enVec p)]
  else [.shadowWrite offVec, .dirWrite offVec]

/-- The event is a write of the direction register or the level latch: what the source's testable properties observe
(spec/00_scope.md R19, spec/40_driver.md R133). -/
def Event.isPortWrite : Event → Bool
  | .dirWrite _ => true
  | .latWrite _ => true
  | .reset => false
  | .shadowWrite _ => false
  | .tmrSample _ => false

/-- Every shared line is at high impedance. -/
abbrev State.Dark (s : State) : Prop := ∀ k, s.pin k = .z

/-- Exactly the two lines of phase p are driven, the high line to 1 and the low line to 0 (spec/40_driver.md R136). -/
abbrev State.Shows (s : State) (p : Fin 8) : Prop :=
  s.pin (s.board.config.entry p).high = .level true ∧ s.pin (s.board.config.entry p).low = .level false ∧
    ∀ k, k ≠ (s.board.config.entry p).high → k ≠ (s.board.config.entry p).low → s.pin k = .z

/-- What holds of every state the block reaches. -/
structure Inv (s : State) : Prop where
  /-- `CTRL_STATE` is never 7 (spec/10_state.md R49). -/
  ctrlLegal : s.ctrlState ≠ 0b111#3
  /-- The shadow mirrors the physical register (R39). -/
  shadowMirrors : s.dir = s.dirShadow
  /-- `PHASE_CNT` is in 0..8 (R33). -/
  phaseCntLegal : s.phaseCnt ≤ 8#4
  /-- `PHASE_CNT` is 0 only before the first `DRV.SEL` (R33, R49). -/
  phaseCntStart : s.phaseCnt = 0#4 → s.ctrlState = sSettle ∨ s.ctrlState = sDrvSel
  /-- `SEL_PHASE` is the phase last selected, which `PHASE_CNT` also holds, with 8 for phase 0 (R33, R34). -/
  phaseSelected : s.selPhase = s.phaseCnt.setWidth 3
  /-- `MASK` is 0 or has one bit (R49). -/
  maskReached : s.mask = 0#8 ∨ ∃ i : Fin 8, s.mask = 1#8 <<< i.val
  /-- `SETTLE_CNT` is at most `SETTLE_TOGGLES` (R41). -/
  settleBound : s.settleCnt ≤ s.board.config.settleToggles
  /-- The block is in `S_SETTLE` exactly while the settle count is not 0 (R41). -/
  settleWaits : s.ctrlState = sSettle ↔ s.settleCnt ≠ 0#8
  /-- During the settle wait the driver and the scheduler are as reset left them (spec/41_scheduler.md R151). -/
  settleFresh : s.ctrlState = sSettle →
    s.mask = 0#8 ∧ s.phaseCnt = 0#4 ∧ s.selLit = false ∧ s.toggleCnt = s.board.config.stepDelay
  /-- `TOGGLE_CNT` is at most `STEP_DELAY` (spec/10_state.md R40). -/
  toggleBound : s.toggleCnt ≤ s.board.config.stepDelay
  /-- `TOGGLE_CNT` is 0 in `S_SCH_STEP` alone (R40). -/
  toggleExpires : s.ctrlState = sSchStep ↔ s.toggleCnt = 0#8
  /-- Every line is an input during the settle wait, and inside a lit refresh before `DRV.EN` (R125, R151). -/
  allInputs : s.ctrlState = sSettle ∨ s.ctrlState = sDrvLvl ∨ s.ctrlState = sDrvEn → s.dirShadow = offVec
  /-- Only a lit refresh goes through `DRV.LVL` and `DRV.EN` (spec/40_driver.md R124). -/
  litInside : s.ctrlState = sDrvLvl ∨ s.ctrlState = sDrvEn → s.selLit = true
  /-- Before `DRV.EN` the latch holds the levels of the phase (R128, R137). -/
  latchLoaded : s.ctrlState = sDrvEn → s.lat = s.board.config.lvlVec s.phase
  /-- Between a refresh and the next phase's selection, the port shows the refresh's result (R126, R130). -/
  portShows : s.ctrlState = sSchPoll ∨ s.ctrlState = sSchStep ∨ s.ctrlState = sDrvSel →
    if s.selLit then s.dirShadow = s.board.config.enVec s.phase ∧ s.lat = s.board.config.lvlVec s.phase
    else s.dirShadow = offVec
  /-- At any time the port drives nothing, or the pair of one phase with that phase's levels (R36, R49, R136). -/
  portReached : s.dirShadow = offVec ∨
    ∃ p, s.dirShadow = s.board.config.enVec p ∧ s.lat = s.board.config.lvlVec p
  /-- The timer's value has `TMR_WIDTH` bits (spec/00_scope.md R13). -/
  timerFits : s.tmr < 2 ^ s.board.config.timer.width

/-- The order of the port writes in a history (spec/20_memory.md R80, spec/40_driver.md R128, R132, R135). -/
structure OrderedHistory (c : Config) (h : List Event) : Prop where
  /-- Every shadow write is followed at once by the same write of the physical register. -/
  shadowThenDir : ∀ pre v post, h = pre ++ .shadowWrite v :: post → ∃ post', post = .dirWrite v :: post'
  /-- Every direction write follows at once the same write of the shadow. -/
  dirAfterShadow : ∀ pre v post, h = pre ++ .dirWrite v :: post → ∃ pre', pre = pre' ++ [.shadowWrite v]
  /-- Every level write is a phase's, and follows at once the all-input write. -/
  levelAfterOff : ∀ pre v post, h = pre ++ .latWrite v :: post →
    ∃ p pre', v = c.lvlVec p ∧ pre = pre' ++ [.shadowWrite offVec, .dirWrite offVec]
  /-- A direction write is the all-input write, or the enabling of one phase's pair right after that phase's levels, which
  follow at once the all-input write. -/
  enableAfterLevel : ∀ pre v post, h = pre ++ .dirWrite v :: post → v = offVec ∨
    ∃ p pre', v = c.enVec p ∧
      pre = pre' ++ [.shadowWrite offVec, .dirWrite offVec, .latWrite (c.lvlVec p), .shadowWrite v]

/-- What holds of every history the block reaches, with where the current refresh stands in it. -/
structure HistoryInv (s : State) : Prop where
  ordered : OrderedHistory s.board.config s.history
  /-- Before `DRV.LVL` the last events are the all-input writes. -/
  beforeLevel : s.ctrlState = sDrvLvl → ∃ pre, s.history = pre ++ [.shadowWrite offVec, .dirWrite offVec]
  /-- Before `DRV.EN` the last events are the all-input writes and the phase's levels. -/
  beforeEnable : s.ctrlState = sDrvEn → ∃ pre, s.history =
    pre ++ [.shadowWrite offVec, .dirWrite offVec, .latWrite (s.board.config.lvlVec s.phase)]

/-- The two states differ at most in the latch, and then only where no output shows it: every line is an input, and the
levels of a lit refresh have yet to be written (spec/10_state.md R38). -/
def LatchAlike (s t : State) : Prop :=
  t = { s with lat := t.lat } ∧
    (t.lat = s.lat ∨ (s.dir = offVec ∧ s.dirShadow = offVec ∧ s.ctrlState ≠ sDrvEn))

end Sys2Proof.Machine
end

