-- ==== Sys2Proof/Certificates/Slice0/Obligations.lean ====
section
/-!
DEFINITION. The statements for the provers, one `def Obligations.<Name> : Prop` for each entry of OBLIGATIONS.json.

A result statement gives the whole next state of an operation as an update of the state before it: the fields it does not name
are unchanged. A statement about a free value holds for every value of it, since the value is opaque.
-/

open Sys2Proof Sys2Proof.Machine

/-! ## Reset and configuration -/

/-- spec/10_state.md R31 to R42, spec/00_scope.md R19, spec/70_reset_and_hazards.md R231: what reset leaves, for the registers the
spec gives a value, whatever the board. The board of `State.reset` has the spec's defaults of R11 and R16 (logs 1, 2 and 7). -/
def Obligations.ResetRegisterValues : Prop :=
  State.reset.ctrlState = 0b000#3 ∧ State.reset.mask = 0x00#8 ∧ State.reset.phaseCnt = 0#4 ∧
    State.reset.selPhase = 0#3 ∧ State.reset.selLit = false ∧ State.reset.dirShadow = 0xFF#8 ∧
    State.reset.dir = 0xFF#8 ∧ State.reset.toggleCnt = 64#8 ∧
    State.reset.settleCnt = State.reset.board.config.settleToggles ∧ State.reset.lastMsb = false ∧
    State.reset.history = [.reset] ∧ State.reset.board.config.maskStepKind = .rotate ∧
    State.reset.board.config.timer.width = 8 ∧ State.reset.board.config.timer.msbBit.val = 7

/-- spec/70_reset_and_hazards.md R230: `RESET` from every state, with any `CTRL_STATE` in its word. `LAT` is some 8-bit value: the
statement does not say which (`LatchDrawUnobservable` says that it does not matter). -/
def Obligations.ResetLoadsEveryRegister : Prop :=
  (∀ c : CtrlCode, decode (opwOf true c) = .ok .reset) ∧
    ∀ s : State, ∃ l : Byte, exec .reset s = .next { s with
      mask := 0x00#8
      phaseCnt := 0#4
      selPhase := 0#3
      selLit := false
      dirShadow := 0xFF#8
      dir := 0xFF#8
      lat := l
      toggleCnt := s.board.config.stepDelay
      settleCnt := s.board.config.settleToggles
      lastMsb := false
      history := s.history ++ [.reset]
      ctrlState := 0b000#3 }

/-- spec/60_exceptions.md R203 and R206, spec/70_reset_and_hazards.md R231: a step with `RST` asserted performs `RESET` and not the
operation `CTRL_STATE` names, and every shared line is at high impedance after it. -/
def Obligations.ResetOverridesTheOperation : Prop :=
  ∀ s : State, s.rst = true →
    step s = finishStep (exec .reset s) ∧
      ∃ t, step s = .next t ∧ t.ctrlState = 0b000#3 ∧ t.dir = 0xFF#8 ∧ t.Dark ∧ t.history = s.history ++ [.reset]

/-- spec/60_exceptions.md R203: `CTRL_STATE` = 7 faults without reset, with the whole state recorded, and is reset with it. -/
def Obligations.ReservedCtrlStateFaults : Prop :=
  ∀ s : State, s.ctrlState = 0b111#3 →
    (s.rst = false → step s = .fault (.reservedCtrlState s)) ∧ (s.rst = true → step s = finishStep (exec .reset s))

/-- spec/70_reset_and_hazards.md R235, by the formula of spec/00_scope.md R12: `SETTLE_TOGGLES` is a value of the configuration,
`SETTLE_RAW` clamped into [1, 255], and the clamp is flagged exactly when it changes the value. -/
def Obligations.SettleTogglesClamped : Prop :=
  ∀ c : Config,
    (c.settleToggles.toNat : Int) = (if c.settleRaw < 1 then 1 else if c.settleRaw > 255 then 255 else c.settleRaw) ∧
      (c.clamped = true ↔ (c.settleToggles.toNat : Int) ≠ c.settleRaw)

/-- spec/60_exceptions.md R204: some block is built exactly when the arguments pass the checks, whatever `SETTLE_RAW` is, so arguments
that fail one have none; the block that is built has the arguments as they were given; and the `SETTLE_TOGGLES` of every
configuration is in 1..255, with a `SETTLE_RAW` out of range flagged. -/
def Obligations.BuildAcceptsExactlyWellFormed : Prop :=
  (∀ a : ConfigArgs, (∃ b, a.build = .ok b) ↔
    (∀ k, a.sharedLineBit k < 8) ∧ (∀ j k, a.sharedLineBit j = a.sharedLineBit k → j = k) ∧
      (∀ p, a.maskBit p < 8 ∧ a.high p < 4 ∧ a.low p < 4) ∧ (∀ p, a.high p ≠ a.low p) ∧
      (∀ p q, a.maskBit p = a.maskBit q → p = q) ∧ (∀ m, m < 8 → ∃ p, a.maskBit p = m) ∧
      (∀ p q, a.high p = a.high q → a.low p = a.low q → p = q) ∧ 1 ≤ a.stepDelay ∧ a.stepDelay ≤ 255) ∧
    (∀ (a : ConfigArgs) (b : Board), a.build = .ok b →
      (∀ k : Fin 4, b.config.sharedLineBit[k].val = a.sharedLineBit k) ∧
        (∀ p : Fin 8, (b.config.entry p).maskBit.val = a.maskBit p ∧ (b.config.entry p).high.val = a.high p ∧
          (b.config.entry p).low.val = a.low p) ∧
        b.config.stepDelay.toNat = a.stepDelay ∧ b.config.settleRaw = a.settleRaw ∧
        b.config.maskStepKind = a.maskStepKind ∧ b.config.timer = a.timer ∧ b.config = a.config) ∧
    ∀ c : Config, (1 ≤ c.settleToggles.toNat ∧ c.settleToggles.toNat ≤ 255) ∧
      (c.settleRaw < 1 ∨ 255 < c.settleRaw → c.clamped = true)

/-! ## Encodings -/

/-- spec/30_encoding.md R96 and the table of R95: the word of a state is {`RST`, `CTRL_STATE`}, the step performs
the operation the word decodes to, and each of the sixteen words is decoded, with bit 3 first, or reserved. -/
def Obligations.OperationWordsDecode : Prop :=
  (∀ s : State, s.opw = BitVec.ofBool s.rst ++ s.ctrlState) ∧
    (∀ (s : State) (i : Instr), decode s.opw = .ok i → step s = finishStep (exec i s)) ∧
    (∀ w : Opw, w.getLsbD 3 = true → decode w = .ok .reset) ∧
    decode 0b0000#4 = .ok .setPoll ∧ decode 0b0001#4 = .ok .drvSel ∧ decode 0b0010#4 = .ok .drvOff ∧
    decode 0b0011#4 = .ok .drvLvl ∧ decode 0b0100#4 = .ok .drvEn ∧ decode 0b0101#4 = .ok .schPoll ∧
    decode 0b0110#4 = .ok .schStep ∧ decode 0b0111#4 = .error .reservedCtrlState

/-- spec/30_encoding.md R96, R99: a word names an operation exactly when the match and mask of that operation's row hold of it, so
that no word names two, and the reserved word is the only one that names none. -/
def Obligations.WordsMatchOneRow : Prop :=
  (∀ (w : Opw) (i : Instr), decode w = .ok i ↔ w &&& (opcodeRow i).mask = (opcodeRow i).pattern) ∧
    ∀ w : Opw, w.Legal ↔ ∃ i, decode w = .ok i

/-- spec/30_encoding.md R96: the word of a state is {`RST`, `CTRL_STATE`}, and no bit of either is dropped. -/
def Obligations.OperationWordHoldsBothFields : Prop :=
  ∀ s : State, s.opw.getLsbD 3 = s.rst ∧ s.opw.extractLsb' 0 3 = s.ctrlState ∧
    ∀ w : Opw, (s.placeOpw w).opw = w

/-- spec/30_encoding.md R94: the packed entry has its three fields at [6:4], [3:2] and [1:0], and packing loses nothing. -/
def Obligations.PackedEntryHoldsEveryField : Prop :=
  (∀ e : PhaseEntry, ((packEntry e).extractLsb' 4 3).toNat = e.maskBit.val ∧
    ((packEntry e).extractLsb' 2 2).toNat = e.high.val ∧ ((packEntry e).extractLsb' 0 2).toNat = e.low.val ∧
    unpackEntry (packEntry e) = e) ∧
    ∀ w : BitVec 7, packEntry (unpackEntry w) = w

/-- spec/30_encoding.md R92: the derived port vectors bit by bit. The pair of a phase is two port bits, the enable vector clears
exactly those, and the level vector sets the high line's alone. -/
def Obligations.PhaseVectorsNameTwoLines : Prop :=
  offVec = 0xFF#8 ∧
    (∀ (c : Config) (j : Fin 8), (∀ k, (c.lineMask k).getLsbD j = true ↔ (j : Nat) = c.sharedLineBit[k].val) ∧
      (c.sharedMask.getLsbD j = true ↔ ∃ k : Fin 4, (j : Nat) = c.sharedLineBit[k].val)) ∧
    ∀ (b : Board) (p : Fin 8),
      b.config.portBit (b.config.entry p).high ≠ b.config.portBit (b.config.entry p).low ∧
        ∀ j : Fin 8,
          ((b.config.pair p).getLsbD j = true ↔
            (j : Nat) = b.config.portBit (b.config.entry p).high ∨ (j : Nat) = b.config.portBit (b.config.entry p).low) ∧
          ((b.config.enVec p).getLsbD j = false ↔ (b.config.pair p).getLsbD j = true) ∧
          ((b.config.lvlVec p).getLsbD j = true ↔ (j : Nat) = b.config.portBit (b.config.entry p).high)

/-! ## The step -/

/-- spec/42_sequencer.md R181: a step performs the operation its word names, and then the environment presents the next inputs
(the model's own part: logs 3, 4 and 6). -/
def Obligations.StepRunsTheDecodedOperation : Prop :=
  ∀ (s : State) (i : Instr), decode s.opw = .ok i →
    step s = match exec i s with
      | .next t => .next { t with
          rst := Config.freeRst t.drawNo, tmr := t.board.config.timer.cut (Config.freeTmr t.drawNo), drawNo := t.drawNo + 1 }
      | .fault f => .fault f
      | .refused r => .refused r

/-- spec/42_sequencer.md R180: the successor of each controller state, and the fault of the reserved one. -/
def Obligations.SuccessorTable : Prop :=
  (∀ s t : State, step s = .next t →
    t.ctrlState =
      if s.rst then 0b000#3
      else if s.ctrlState = 0b000#3 then (if s.tmr.testBit s.board.config.timer.msbBit ≠ s.lastMsb ∧ s.settleCnt - 1#8 = 0#8 then 0b001#3 else 0b000#3)
      else if s.ctrlState = 0b001#3 then 0b010#3
      else if s.ctrlState = 0b010#3 then (if s.selLit then 0b011#3 else 0b101#3)
      else if s.ctrlState = 0b011#3 then 0b100#3
      else if s.ctrlState = 0b100#3 then 0b101#3
      else if s.ctrlState = 0b101#3 then (if s.tmr.testBit s.board.config.timer.msbBit ≠ s.lastMsb ∧ s.toggleCnt - 1#8 = 0#8 then 0b110#3 else 0b001#3)
      else 0b001#3) ∧
    ∀ s : State, s.ctrlState = 0b111#3 → s.rst = false → step s = .fault (.reservedCtrlState s)

/-! ## The micro-operations -/

/-- spec/40_driver.md R120: `DRV.SEL`. -/
def Obligations.DrvSelResult : Prop :=
  (∀ s : State, 9#4 ≤ s.phaseCnt → exec .drvSel s = .fault (.phaseCounterReserved s)) ∧
    (∀ s : State, s.phaseCnt ≤ 1#4 → exec .drvSel s = .next { s with
      phaseCnt := 8#4
      selPhase := 0#3
      selLit := s.mask.getLsbD (s.board.config.phaseTable[0]).maskBit
      ctrlState := 0b010#3 }) ∧
    (∀ (s : State) (p : Fin 8), 1 ≤ p.val → s.phaseCnt = BitVec.ofNat 4 (p.val + 1) → exec .drvSel s = .next { s with
      phaseCnt := BitVec.ofNat 4 p.val
      selPhase := BitVec.ofNat 3 p.val
      selLit := s.mask.getLsbD (s.board.config.phaseTable[p]).maskBit
      ctrlState := 0b010#3 })

/-- spec/40_driver.md R124: `DRV.OFF`. -/
def Obligations.DrvOffResult : Prop :=
  ∀ s : State, exec .drvOff s = .next { s with
    dirShadow := s.dirShadow ||| s.board.config.sharedMask
    dir := s.dirShadow ||| s.board.config.sharedMask
    history := s.history ++ [.shadowWrite (s.dirShadow ||| s.board.config.sharedMask),
      .dirWrite (s.dirShadow ||| s.board.config.sharedMask)]
    ctrlState := if s.selLit = true then 0b011#3 else 0b101#3 }

/-- spec/40_driver.md R127: `DRV.LVL`. -/
def Obligations.DrvLvlResult : Prop :=
  ∀ s : State, exec .drvLvl s = .next { s with
    lat := s.board.config.lvlVec s.selPhase.toFin
    history := s.history ++ [.latWrite (s.board.config.lvlVec s.selPhase.toFin)]
    ctrlState := 0b100#3 }

/-- spec/40_driver.md R130: `DRV.EN`. -/
def Obligations.DrvEnResult : Prop :=
  ∀ s : State, exec .drvEn s = .next { s with
    dirShadow := s.dirShadow &&& ~~~(s.board.config.pair s.selPhase.toFin)
    dir := s.dirShadow &&& ~~~(s.board.config.pair s.selPhase.toFin)
    history := s.history ++ [.shadowWrite (s.dirShadow &&& ~~~(s.board.config.pair s.selPhase.toFin)),
      .dirWrite (s.dirShadow &&& ~~~(s.board.config.pair s.selPhase.toFin))]
    ctrlState := 0b101#3 }

/-- spec/41_scheduler.md R150: `SET.POLL`. -/
def Obligations.SetPollResult : Prop :=
  (∀ s : State, s.settleCnt = 0#8 → exec .setPoll s = .fault (.settleCounterZero s)) ∧
    (∀ s : State, s.settleCnt ≠ 0#8 → s.tmr.testBit s.board.config.timer.msbBit ≠ s.lastMsb → exec .setPoll s = .next { s with
      lastMsb := s.tmr.testBit s.board.config.timer.msbBit
      settleCnt := s.settleCnt - 1#8
      history := s.history ++ [.tmrSample (s.tmr.testBit s.board.config.timer.msbBit)]
      ctrlState := if s.settleCnt - 1#8 = 0#8 then 0b001#3 else 0b000#3 }) ∧
    (∀ s : State, s.settleCnt ≠ 0#8 → s.tmr.testBit s.board.config.timer.msbBit = s.lastMsb → exec .setPoll s = .next { s with
      history := s.history ++ [.tmrSample (s.tmr.testBit s.board.config.timer.msbBit)]
      ctrlState := 0b000#3 })

/-- spec/41_scheduler.md R154: `SCH.POLL`. -/
def Obligations.SchPollResult : Prop :=
  (∀ s : State, s.toggleCnt = 0#8 → exec .schPoll s = .fault (.toggleCounterZero s)) ∧
    (∀ s : State, s.toggleCnt ≠ 0#8 → s.tmr.testBit s.board.config.timer.msbBit ≠ s.lastMsb → exec .schPoll s = .next { s with
      lastMsb := s.tmr.testBit s.board.config.timer.msbBit
      toggleCnt := s.toggleCnt - 1#8
      history := s.history ++ [.tmrSample (s.tmr.testBit s.board.config.timer.msbBit)]
      ctrlState := if s.toggleCnt - 1#8 = 0#8 then 0b110#3 else 0b001#3 }) ∧
    (∀ s : State, s.toggleCnt ≠ 0#8 → s.tmr.testBit s.board.config.timer.msbBit = s.lastMsb → exec .schPoll s = .next { s with
      history := s.history ++ [.tmrSample (s.tmr.testBit s.board.config.timer.msbBit)]
      ctrlState := 0b001#3 })

/-- spec/60_exceptions.md R211: a timer of any width from 8 bits up is sampled at `TMR_MSB_BIT`, which is 7 unless the configuration
says otherwise; at 7 the bit is the upper half of the range of the counter's low 8 bits, and it toggles once in every 128 counts
of them, when the counter counts up by one and wraps at its width. -/
def Obligations.TimerBitOfAnyWidth : Prop :=
  (({} : Timer).width = 8 ∧ ({} : Timer).msbBit.val = 7) ∧
    (∀ s : State, s.sampleTmr.history = s.history ++ [.tmrSample (s.tmr.testBit s.board.config.timer.msbBit)]) ∧
    ∀ t : Timer, 8 ≤ t.width ∧ ∀ v : Nat, v < 2 ^ t.width → t.msbBit.val = 7 →
      (t.bit v = true ↔ 128 ≤ v % 256) ∧ (t.bit (t.cut (v + 1)) ≠ t.bit v ↔ (v + 1) % 128 = 0)

/-- spec/41_scheduler.md R157: `SCH.STEP`. -/
def Obligations.SchStepResult : Prop :=
  ∀ s : State, exec .schStep s = .next { s with
    mask := s.board.config.maskStep s.mask
    toggleCnt := s.board.config.stepDelay
    ctrlState := 0b001#3 }

/-- spec/41_scheduler.md R160: `MaskStep` under either kind. -/
def Obligations.MaskStepFormula : Prop :=
  ∀ (c : Config) (m : Byte),
    (c.maskStepKind = .rotate →
      c.maskStep m = if ((m <<< 1) ||| (m >>> 7)) = 0#8 then 0x01#8 else (m <<< 1) ||| (m >>> 7)) ∧
    (c.maskStepKind = .shiftFill → c.maskStep m = if (m <<< 1) = 0#8 then 0x01#8 else m <<< 1)

/-- spec/41_scheduler.md R161: the mask is never dark after a step, and from then on not until the next reset. -/
def Obligations.MaskNeverDarkAfterStep : Prop :=
  (∀ (c : Config) (m : Byte), c.maskStep m ≠ 0#8) ∧ (∀ s t : State, exec .schStep s = .next t → t.mask ≠ 0#8) ∧
    ∀ (s t : State) (is : List Input), Quiet is → s.mask ≠ 0#8 → runWith is s = .next t → t.mask ≠ 0#8

/-- spec/41_scheduler.md R165: the two kinds agree on the masks with bit 7 clear or alone, they differ on every other, and no state
that meets the invariant has one of those. -/
def Obligations.MaskKindsAgreeWhereReachable : Prop :=
  (∀ (c d : Config) (m : Byte), c.maskStepKind = .rotate → d.maskStepKind = .shiftFill →
    (c.maskStep m = d.maskStep m ↔ ¬ (m.getLsbD 7 = true ∧ m &&& 0x7F#8 ≠ 0#8)) ∧
      (m.getLsbD 7 = true ∧ m &&& 0x7F#8 ≠ 0#8 → c.maskStep m = (m <<< 1) ||| 1#8 ∧ d.maskStep m = m <<< 1) ∧
      (m = 0x00#8 ∨ m = 0x80#8 → c.maskStep m = 0x01#8 ∧ d.maskStep m = 0x01#8) ∧
      ∀ i : Fin 7, m = 1#8 <<< i.val → c.maskStep m = 1#8 <<< (i.val + 1) ∧ d.maskStep m = 1#8 <<< (i.val + 1)) ∧
    ∀ s : State, Inv s → ¬ (s.mask.getLsbD 7 = true ∧ s.mask &&& 0x7F#8 ≠ 0#8)

/-! ## Frames over all operations -/

/-- spec/20_memory.md R81: each register has one writer component, `RESET` apart. -/
def Obligations.EachRegisterHasOneWriter : Prop :=
  ∀ (i : Instr) (s t : State), exec i s = .next t → i ≠ .reset →
    (i ≠ .schStep → t.mask = s.mask) ∧
      (i ≠ .schStep → i ≠ .schPoll → t.toggleCnt = s.toggleCnt) ∧
      (i ≠ .setPoll → t.settleCnt = s.settleCnt) ∧
      (i ≠ .setPoll → i ≠ .schPoll → t.lastMsb = s.lastMsb) ∧
      (i ≠ .drvSel → t.phaseCnt = s.phaseCnt ∧ t.selPhase = s.selPhase ∧ t.selLit = s.selLit) ∧
      (i ≠ .drvOff → i ≠ .drvEn → t.dirShadow = s.dirShadow ∧ t.dir = s.dir) ∧
      (i ≠ .drvLvl → t.lat = s.lat)

/-- spec/10_state.md R43, spec/70_reset_and_hazards.md R230: no step, `RESET` among them, changes the configuration. -/
def Obligations.ConfigurationNeverChanges : Prop :=
  ∀ (s t : State) (is : List Input), runWith is s = .next t → t.board = s.board

/-- spec/10_state.md R36, spec/20_memory.md R71: no operation makes a line outside `SHARED_MASK` an output. -/
def Obligations.UnsharedLinesStayInputs : Prop :=
  ∀ (i : Instr) (s t : State) (j : Fin 8), exec i s = .next t → s.board.config.sharedMask.getLsbD j = false →
    s.dirShadow.getLsbD j = true → s.dir.getLsbD j = true → t.dirShadow.getLsbD j = true ∧ t.dir.getLsbD j = true

/-- spec/10_state.md R32, spec/40_driver.md R123: the mask is read by `DRV.SEL` and `SCH.STEP` alone, so every other operation
does the same under any other mask. -/
def Obligations.MaskReadOncePerRefresh : Prop :=
  ∀ (i : Instr) (s t : State) (m : Byte), i ≠ .drvSel → i ≠ .schStep → i ≠ .reset → exec i s = .next t →
    exec i { s with mask := m } = .next { t with mask := m }

/-! ## Invariants -/

/-- spec/10_state.md R49: the invariant holds right after power-up on every board, the board of `State.reset` among them. -/
def Obligations.InvariantHoldsAtReset : Prop := Inv State.reset ∧ ∀ b : Board, Inv (State.powerUp b)

/-- spec/10_state.md R39 and R49, spec/60_exceptions.md R200: from every state that meets the invariant, with any inputs, a step
neither faults nor is refused, and it leads to a state that meets the invariant. -/
def Obligations.StepKeepsInvariant : Prop :=
  ∀ s : State, Inv s → ∃ t, step s = .next t ∧ Inv t

/-- spec/60_exceptions.md R200: no run from power-up faults, on any board and whatever the inputs; `State.reset` is the power-up of
one board. -/
def Obligations.NoRunFaults : Prop :=
  (State.reset = State.powerUp Config.board) ∧
    ∀ (b : Board) (is : List Input), ∃ t, runWith is (State.powerUp b) = .next t ∧ Inv t

/-- spec/60_exceptions.md R201: a step faults for the four reserved state values and for nothing else, with the whole state recorded,
and in no state that meets the invariant; no step is refused. -/
def Obligations.FaultsExactlyInReservedStates : Prop :=
  (∀ (s : State) (f : Fault), step s = .fault f ↔ s.rst = false ∧
    ((s.ctrlState = 0b111#3 ∧ f = .reservedCtrlState s) ∨
      (s.ctrlState = 0b001#3 ∧ 9#4 ≤ s.phaseCnt ∧ f = .phaseCounterReserved s) ∨
      (s.ctrlState = 0b000#3 ∧ s.settleCnt = 0#8 ∧ f = .settleCounterZero s) ∨
      (s.ctrlState = 0b101#3 ∧ s.toggleCnt = 0#8 ∧ f = .toggleCounterZero s))) ∧
    (∀ (s : State) (r : Refusal), step s ≠ .refused r) ∧ ∀ (s : State) (f : Fault), Inv s → step s ≠ .fault f

/-- spec/40_driver.md R136: in every state that meets the invariant, no shared line is driven, or exactly the two lines of one
phase are, with that phase's levels, and no other phase is shown. -/
def Obligations.AtMostOneLedDriven : Prop :=
  ∀ s : State, Inv s → s.Dark ∨ ∃ p, s.Shows p ∧ ∀ q, s.Shows q → q = p

/-- spec/40_driver.md R134: in every state that meets the invariant, 0 or 2 shared lines are outputs, and 2 only between the
`DRV.EN` of a lit refresh and the `DRV.OFF` of the next: a state of the poll, the mask step or the selection with 2 comes after
a lit refresh, and a step that leaves 2 was the `DRV.EN` of a lit refresh, or found 2 and was neither `DRV.OFF` nor `RESET`. -/
def Obligations.OutputCountZeroOrTwo : Prop :=
  (∀ s : State, Inv s →
    (s.outputCount = 0 ∨ s.outputCount = 2) ∧
      (s.outputCount = 2 →
        s.ctrlState = sDrvOff ∨
          ((s.ctrlState = sSchPoll ∨ s.ctrlState = sSchStep ∨ s.ctrlState = sDrvSel) ∧ s.selLit = true))) ∧
    ∀ s t : State, Inv s → step s = .next t → t.outputCount = 2 →
      (decode s.opw = .ok .drvEn ∧ s.selLit = true) ∨
        (s.outputCount = 2 ∧ decode s.opw ≠ .ok .drvOff ∧ decode s.opw ≠ .ok .reset)

/-- spec/40_driver.md R125: after `DRV.OFF`, from any state, every shared line is at high impedance, and from a state that meets
the invariant the port is all inputs. -/
def Obligations.DrvOffLeavesEveryLineDark : Prop :=
  ∀ s : State, ∃ t, exec .drvOff s = .next t ∧ t.Dark ∧ (Inv s → t.dir = 0xFF#8 ∧ t.dirShadow = 0xFF#8)

/-- spec/40_driver.md R137, with R131: an operation that makes a shared line an output is `DRV.EN`; it finds both levels on the
latch and every line an input, and after it the pins show the phase. -/
def Obligations.DrvEnShowsThePhase : Prop :=
  (∀ (i : Instr) (s t : State) (k : Fin 4), exec i s = .next t → s.pin k = .z → t.pin k ≠ .z → i = .drvEn) ∧
    ∀ s : State, Inv s → s.ctrlState = sDrvEn →
      s.lat.getLsbD (s.board.config.portBit (s.board.config.entry s.phase).high) = true ∧
        s.lat.getLsbD (s.board.config.portBit (s.board.config.entry s.phase).low) = false ∧ s.Dark ∧
        ∃ t, exec .drvEn s = .next t ∧ t.Shows s.phase

/-- spec/20_memory.md R80, spec/40_driver.md R128 and R135: the order of the port writes holds right after power-up on every
board. -/
def Obligations.HistoryOrderedAtReset : Prop := HistoryInv State.reset ∧ ∀ b : Board, HistoryInv (State.powerUp b)

/-- spec/20_memory.md R80, spec/40_driver.md R128, R132 and R135: a step keeps the order of the port writes: shadow before
register, all inputs before levels, levels before the enabling of their pair, nothing between. -/
def Obligations.StepKeepsHistoryOrdered : Prop :=
  ∀ s t : State, Inv s → HistoryInv s → step s = .next t → HistoryInv t

/-- spec/40_driver.md R135, spec/20_memory.md R80: in the history of every run from power-up, on any board and whatever the inputs,
the shadow is written right before the register with the same value, every level write follows the all-input write at once, and
a write that makes a line an output follows at once the all-input write and the level write of its own phase. -/
def Obligations.EveryHistoryOrdered : Prop :=
  ∀ (b : Board) (is : List Input) (t : State), runWith is (State.powerUp b) = .next t →
    OrderedHistory b.config t.history

/-- spec/10_state.md R38, spec/42_sequencer.md R183: the latch's draw at reset is never observable. After a `RESET`, any two draws
give two states alike but for the latch; and two such states show the same pins and the same history, and step to two such
states under the same inputs. -/
def Obligations.LatchDrawUnobservable : Prop :=
  (∀ (s t : State) (v : Byte), exec .reset s = .next t → LatchAlike t { t with lat := v }) ∧
    ∀ s t : State, Inv s → LatchAlike s t →
      (∀ k, s.pin k = t.pin k) ∧ s.history = t.history ∧
        ∃ s' t', step s = .next s' ∧ step t = .next t' ∧ LatchAlike s' t'

/-! ## Runs -/

/-- spec/40_driver.md R121: from a reset, the phases served are 0, 7, 6, 5, 4, 3, 2, 1, 0, 7, ... whatever the samples. -/
def Obligations.PhasesServedInOrder : Prop :=
  ∀ (s : State) (is : List Input), Inv s → s.ctrlState = sSettle → Quiet is →
    collect .drvSel State.phase is s =
      (List.range (collect .drvSel State.phase is s).length).map fun n => Fin.ofNat 8 (8 - n % 8)

/-- spec/40_driver.md R122: the phases served have period 8, and any 8 consecutive refreshes serve each phase once. -/
def Obligations.PhasesServedWithPeriodEight : Prop :=
  ∀ (s : State) (is : List Input), Inv s → s.ctrlState = sSettle → Quiet is →
    (∀ n p, (collect .drvSel State.phase is s)[n + 8]? = some p → (collect .drvSel State.phase is s)[n]? = some p) ∧
      ∀ pre w post, collect .drvSel State.phase is s = pre ++ w ++ post → w.length = 8 → ∀ p : Fin 8, w.count p = 1

/-- spec/41_scheduler.md R162: from a reset, the mask after the j-th `SCH.STEP` is `1 << ((j - 1) mod 8)`, under either kind, and
0x00 before the first. -/
def Obligations.MaskWalksOneBit : Prop :=
  ∀ (s : State) (is : List Input), Inv s → s.ctrlState = sSettle → Quiet is →
    collect .schStep State.mask is s =
        (List.range (collect .schStep State.mask is s).length).map (fun j => 1#8 <<< (j % 8)) ∧
      ∀ t, runWith is s = .next t → collect .schStep State.mask is s = [] → t.mask = 0x00#8

/-- spec/41_scheduler.md R158: after j mask steps, the toggles that `SCH.POLL` has observed are (j + 1) × `STEP_DELAY` exactly
when the next `SCH.STEP` is due, and fewer, but at least j × `STEP_DELAY`, otherwise. -/
def Obligations.MaskStepsEveryStepDelay : Prop :=
  ∀ (s t : State) (is : List Input), Inv s → s.ctrlState = sSettle → Quiet is → runWith is s = .next t →
    (t.ctrlState = sSchStep → togglesAt .schPoll is s =
      ((collect .schStep State.mask is s).length + 1) * s.board.config.stepDelay.toNat) ∧
    (t.ctrlState ≠ sSchStep →
      (collect .schStep State.mask is s).length * s.board.config.stepDelay.toNat ≤ togglesAt .schPoll is s ∧
      togglesAt .schPoll is s < ((collect .schStep State.mask is s).length + 1) * s.board.config.stepDelay.toNat)

/-- spec/41_scheduler.md R152 and R155: the settle wait lasts while fewer toggles than `SETTLE_CNT` have been sampled, and the
sample that shows the last of them ends it: the next operation is `DRV.SEL`. -/
def Obligations.SettleWaitCountsToggles : Prop :=
  ∀ (s : State) (is : List Input), Inv s → s.ctrlState = sSettle → Quiet is →
    (togglesIn s.lastMsb (is.map (Input.bit s.board.config)) < s.settleCnt.toNat →
      opsOf is s = settleOps is.length ∧ ∃ t, runWith is s = .next t ∧ t.ctrlState = sSettle ∧
        t.settleCnt.toNat = s.settleCnt.toNat - togglesIn s.lastMsb (is.map (Input.bit s.board.config))) ∧
    ∀ js i, is = js ++ [i] → togglesIn s.lastMsb (js.map (Input.bit s.board.config)) < s.settleCnt.toNat →
      togglesIn s.lastMsb (is.map (Input.bit s.board.config)) = s.settleCnt.toNat →
        opsOf is s = settleOps is.length ∧ ∃ t, runWith is s = .next t ∧ t.ctrlState = sDrvSel ∧ t.settleCnt = 0#8

/-- spec/41_scheduler.md R151: before the first `DRV.SEL` the block writes neither `DIR` nor `LAT`, and every line stays at high
impedance. -/
def Obligations.NoPortWriteBeforeFirstRefresh : Prop :=
  ∀ (s t : State) (is : List Input), Inv s → s.ctrlState = sSettle → Quiet is → runWith is s = .next t →
    .drvSel ∉ opsOf is s →
      t.dir = 0xFF#8 ∧ t.lat = s.lat ∧ t.Dark ∧ ∃ bs : List Bool, t.history = s.history ++ bs.map Event.tmrSample

/-- spec/60_exceptions.md R210, spec/41_scheduler.md R152: under the fairness assumption the settle wait ends. -/
def Obligations.SettleWaitEndsWhenFair : Prop :=
  ∀ (s : State) (inputs : Nat → Input), Inv s → s.ctrlState = sSettle → (∀ n, (inputs n).rst = false) →
    Fair (fun n => (inputs n).bit s.board.config) →
      ∃ n t, runWith ((List.range n).map inputs) s = .next t ∧ t.ctrlState = sDrvSel

/-- spec/41_scheduler.md R164, spec/40_driver.md R132, spec/42_sequencer.md R182, spec/30_encoding.md R102: an iteration is one
refresh, of 2 steps when the tested mask bit is 0 and 4 when it is 1, and one poll, with exactly their events, and it goes on
to `SCH.STEP` when the poll shows the last toggle of the countdown, and to the next `DRV.SEL` otherwise. -/
def Obligations.IterationStructure : Prop :=
  ∀ (s : State) (is : List Input) (i : Input), Inv s → s.ctrlState = sDrvSel → Quiet is → i.rst = false →
    is.length = (refreshOps (s.maskBitOf (servedPhase s.phaseCnt))).length →
      opsOf (is ++ [i]) s = refreshOps (s.maskBitOf (servedPhase s.phaseCnt)) ++ [.schPoll] ∧
        ∃ t, runWith (is ++ [i]) s = .next t ∧
          t.history = s.history ++ refreshEvents s.board.config (servedPhase s.phaseCnt).toFin
            (s.maskBitOf (servedPhase s.phaseCnt)) ++ [.tmrSample (i.bit s.board.config)] ∧
          t.selPhase = servedPhase s.phaseCnt ∧
          t.ctrlState = if i.bit s.board.config ≠ s.lastMsb ∧ s.toggleCnt = 1#8 then sSchStep else sDrvSel

/-- spec/40_driver.md R126: a dark refresh writes the all-input vector and nothing else, and leaves every line at high
impedance. -/
def Obligations.DarkRefresh : Prop :=
  ∀ (s : State) (i j : Input), Inv s → s.ctrlState = sDrvSel → i.rst = false → j.rst = false →
    s.maskBitOf (servedPhase s.phaseCnt) = false →
      opsOf [i, j] s = [.drvSel, .drvOff] ∧ ∃ t, runWith [i, j] s = .next t ∧ t.ctrlState = sSchPoll ∧ t.lat = s.lat ∧
        t.Dark ∧ t.history = s.history ++ [.shadowWrite 0xFF#8, .dirWrite 0xFF#8]

/-- spec/40_driver.md R133: eight refreshes with the mask stepped by none of them bring the driver back to the phase it is to
serve, and the next refresh writes the same values to `DIR` and `LAT` as the refresh eight before it, at every point of it. -/
def Obligations.ByteIdenticalPeriod : Prop :=
  ∀ (s t : State) (is : List Input), Inv s → s.ctrlState = sDrvSel → Quiet is →
    runWith is s = .next t → t.ctrlState = sDrvSel → (collect .drvSel State.phase is s).length = 8 →
    .schStep ∉ opsOf is s →
      servedPhase t.phaseCnt = servedPhase s.phaseCnt ∧
        ∀ (js ks : List Input) (u v : State), Quiet js → Quiet ks → js.length = ks.length → js.length ≤ 4 →
          runWith js s = .next u → runWith ks t = .next v →
            (u.history.drop s.history.length).filter Event.isPortWrite =
              (v.history.drop t.history.length).filter Event.isPortWrite

/-- spec/40_driver.md R139: over 8 consecutive refreshes with the mask unchanged, each phase is served once, and it is lit exactly
when the bit of `MASK` it tests is 1. -/
def Obligations.EachDesiredPhaseLitOnce : Prop :=
  ∀ (s : State) (is : List Input), Inv s → Quiet is → .schStep ∉ opsOf is s →
    (collect .drvSel State.phase is s).length = 8 →
      ∀ (p : Fin 8) (lit : Bool),
        (collect .drvSel (fun t => (t.phase, t.selLit)) is s).count (p, lit) =
          if lit = s.mask.getLsbD (s.board.config.entry p).maskBit then 1 else 0

/-- spec/42_sequencer.md R182 and R184, spec/40_driver.md R138: after the settle wait a refresh starts within any 6 steps. -/
def Obligations.RefreshWithinSixSteps : Prop :=
  ∀ (s : State) (is : List Input), Inv s → s.ctrlState ≠ sSettle → Quiet is → is.length = 6 →
    .drvSel ∈ opsOf is s
end

