-- ==== Sys2Proof/Laws/Operands.lean ====
section
/-!
SUPPORT. What each derived value of the configuration is: the timer bit, the settle count, the port vectors bit by bit, the served
phase; and what a build can accept.
-/

namespace Sys2Proof

/-- The sampled bit is one of the counter's, so it is read the same of a value cut to the counter's width. -/
@[simp] theorem Timer.bit_cut (t : Timer) (v : Nat) : t.bit (t.cut v) = t.bit v := by
  simp [Timer.bit, Timer.cut, Nat.testBit_mod_two_pow]

theorem Timer.cut_lt (t : Timer) (v : Nat) : t.cut v < 2 ^ t.width := Nat.mod_lt _ (Nat.two_pow_pos _)

/-- Everything a build can accept: arguments in range whose configuration passes the checks, taken as it is. -/
theorem ConfigArgs.build_eq_ok {a : ConfigArgs} {b : Board} :
    a.build = .ok b ↔ (∀ k, a.sharedLineBit k < 8) ∧ (∀ p, a.maskBit p < 8 ∧ a.high p < 4 ∧ a.low p < 4) ∧
      1 ≤ a.stepDelay ∧ a.stepDelay ≤ 255 ∧ b.config = a.config := by
  obtain ⟨c, hc⟩ := b
  unfold ConfigArgs.build
  by_cases h1 : ∀ k, a.sharedLineBit k < 8
  · by_cases h2 : ∀ p, a.maskBit p < 8 ∧ a.high p < 4 ∧ a.low p < 4
    · by_cases h3 : a.stepDelay < 1 ∨ 255 < a.stepDelay
      · rw [if_neg (not_not_intro h1), if_neg (not_not_intro h2), if_pos h3]
        simp; omega
      · rw [if_neg (not_not_intro h1), if_neg (not_not_intro h2), if_neg h3]
        have h3' : 1 ≤ a.stepDelay ∧ a.stepDelay ≤ 255 := by omega
        by_cases h4 : a.config.WellFormed
        · rw [dif_pos h4]
          constructor
          · intro h; cases h; exact ⟨h1, h2, h3'.1, h3'.2, rfl⟩
          · rintro ⟨-, -, -, -, rfl⟩; rfl
        · rw [dif_neg h4]
          constructor
          · intro h; repeat (first | cases h | split at h)
          · rintro ⟨-, -, -, -, rfl⟩; exact absurd hc h4
    · rw [if_neg (not_not_intro h1), if_pos h2]
      exact ⟨nofun, fun h => absurd h.2.1 h2⟩
  · rw [if_pos h1]
    exact ⟨nofun, fun h => absurd h.1 h1⟩

theorem Config.settleToggles_toNat (c : Config) :
    c.settleToggles.toNat = min (c.settleRaw - 1).toNat 254 + 1 := by
  simp [Config.settleToggles]

theorem Config.settleToggles_ne_zero (c : Config) : c.settleToggles ≠ 0#8 := by
  intro h
  have := c.settleToggles_toNat
  simp [h] at this

theorem Config.portBit_lt (c : Config) (k : Fin 4) : c.portBit k < 8 := (c.sharedLineBit[k]).isLt

theorem Config.lineMask_getLsbD (c : Config) (k : Fin 4) (j : Nat) :
    (c.lineMask k).getLsbD j = decide (j = c.portBit k) := by
  have hk := c.portBit_lt k
  rw [Config.lineMask, BitVec.getLsbD_shiftLeft, BitVec.getLsbD_one]
  by_cases h : j = c.portBit k
  · simp [h, hk]
  · by_cases h8 : j < 8
    · simp [h, h8]; omega
    · simp [h, h8]

theorem Config.pair_getLsbD (c : Config) (p : Fin 8) (j : Nat) :
    (c.pair p).getLsbD j =
      (decide (j = c.portBit (c.entry p).high) || decide (j = c.portBit (c.entry p).low)) := by
  simp [Config.pair, Config.lineMask_getLsbD]

theorem Config.sharedMask_getLsbD (c : Config) (j : Nat) :
    (c.sharedMask).getLsbD j = decide (∃ k, j = c.portBit k) := by
  simp [Config.sharedMask, Config.lineMask_getLsbD, Fin.exists_fin_succ, Bool.or_assoc]

theorem offVec_getLsbD (j : Nat) : offVec.getLsbD j = decide (j < 8) := by
  by_cases h : j < 8
  · have : j = 0 ∨ j = 1 ∨ j = 2 ∨ j = 3 ∨ j = 4 ∨ j = 5 ∨ j = 6 ∨ j = 7 := by omega
    rcases this with rfl | rfl | rfl | rfl | rfl | rfl | rfl | rfl <;> decide
  · rw [BitVec.getLsbD_of_ge _ _ (by omega)]; simp [h]

theorem Config.enVec_getLsbD (c : Config) (p : Fin 8) (j : Nat) (hj : j < 8) :
    (c.enVec p).getLsbD j =
      !(decide (j = c.portBit (c.entry p).high) || decide (j = c.portBit (c.entry p).low)) := by
  rw [Config.enVec, BitVec.getLsbD_and, BitVec.getLsbD_not, offVec_getLsbD, Config.pair_getLsbD]
  simp [hj]

theorem Config.lvlVec_getLsbD (c : Config) (p : Fin 8) (j : Nat) :
    (c.lvlVec p).getLsbD j = decide (j = c.portBit (c.entry p).high) := by
  simp [Config.lvlVec, Config.lineMask_getLsbD]

theorem offVec_or (v : Byte) : offVec ||| v = offVec := by
  apply BitVec.eq_of_getLsbD_eq
  intro j hj
  simp [offVec_getLsbD, hj]

/-- Turning every shared line to input undoes the enabling of any pair. -/
theorem Config.enVec_or_sharedMask (c : Config) (p : Fin 8) : c.enVec p ||| c.sharedMask = offVec := by
  apply BitVec.eq_of_getLsbD_eq
  intro j hj
  rw [BitVec.getLsbD_or, c.enVec_getLsbD p j hj, c.sharedMask_getLsbD, offVec_getLsbD]
  by_cases h : j = c.portBit (c.entry p).high
  · simp [h, (c.portBit_lt _)]
  · by_cases h' : j = c.portBit (c.entry p).low
    · simp [h', (c.portBit_lt _)]
    · simp [h, h', hj]

/-- The lines of a built block have distinct port bits. -/
theorem Board.portBit_injective (b : Board) (j k : Fin 4) (h : b.config.portBit j = b.config.portBit k) : j = k :=
  b.wf.1 j k (Fin.ext h)

/-- WF1 in a built block. -/
theorem Board.high_ne_low (b : Board) (p : Fin 8) : (b.config.entry p).high ≠ (b.config.entry p).low := b.wf.2.1 p

/-- WF3 in a built block. -/
theorem Board.pairs_distinct (b : Board) (p q : Fin 8) (hh : (b.config.entry p).high = (b.config.entry q).high)
    (hl : (b.config.entry p).low = (b.config.entry q).low) : p = q := b.wf.2.2.2.1 p q hh hl

/-- `STEP_DELAY` is not 0 in a built block. -/
theorem Board.stepDelay_ne_zero (b : Board) : b.config.stepDelay ≠ 0#8 := b.wf.2.2.2.2

/-- `PHASE_CNT` after `DRV.SEL` holds the served phase, with 8 for phase 0. -/
theorem nextPhaseCnt_spec : ∀ c : BitVec 4, c ≤ 8#4 →
    nextPhaseCnt c ≤ 8#4 ∧ nextPhaseCnt c ≠ 0#4 ∧ servedPhase c = (nextPhaseCnt c).setWidth 3 := by decide

/-- The served phase is one less than the phase the counter holds, modulo 8, once a phase has been served. -/
theorem servedPhase_pred : ∀ c : BitVec 4, c ≤ 8#4 → c ≠ 0#4 → servedPhase c = c.setWidth 3 - 1#3 := by decide

theorem servedPhase_zero : servedPhase 0#4 = 0#3 := by decide

end Sys2Proof
end

