-- ==== Sys2Proof/Laws/State.lean ====
section
/-!
SUPPORT. What each register update leaves in each field of the state: one lemma for each field of each update, and for
the phase and the timer bit read from it, true by unfolding but for the timer bit of new inputs.
-/

namespace Sys2Proof.Machine
section
variable (s : State) (e : Event)
@[simp] theorem State.record_ctrlState : (s.record e).ctrlState = s.ctrlState := rfl
@[simp] theorem State.record_mask : (s.record e).mask = s.mask := rfl
@[simp] theorem State.record_phaseCnt : (s.record e).phaseCnt = s.phaseCnt := rfl
@[simp] theorem State.record_selPhase : (s.record e).selPhase = s.selPhase := rfl
@[simp] theorem State.record_selLit : (s.record e).selLit = s.selLit := rfl
@[simp] theorem State.record_dirShadow : (s.record e).dirShadow = s.dirShadow := rfl
@[simp] theorem State.record_dir : (s.record e).dir = s.dir := rfl
@[simp] theorem State.record_lat : (s.record e).lat = s.lat := rfl
@[simp] theorem State.record_toggleCnt : (s.record e).toggleCnt = s.toggleCnt := rfl
@[simp] theorem State.record_settleCnt : (s.record e).settleCnt = s.settleCnt := rfl
@[simp] theorem State.record_lastMsb : (s.record e).lastMsb = s.lastMsb := rfl
@[simp] theorem State.record_rst : (s.record e).rst = s.rst := rfl
@[simp] theorem State.record_tmr : (s.record e).tmr = s.tmr := rfl
@[simp] theorem State.record_history : (s.record e).history = s.history ++ [e] := rfl
@[simp] theorem State.record_board : (s.record e).board = s.board := rfl
@[simp] theorem State.record_drawNo : (s.record e).drawNo = s.drawNo := rfl
@[simp] theorem State.record_phase : (s.record e).phase = s.phase := rfl
@[simp] theorem State.record_timerBit : (s.record e).timerBit = s.timerBit := rfl

end

section
variable (s : State) (c : CtrlCode)
@[simp] theorem State.goto_ctrlState : (s.goto c).ctrlState = c := rfl
@[simp] theorem State.goto_mask : (s.goto c).mask = s.mask := rfl
@[simp] theorem State.goto_phaseCnt : (s.goto c).phaseCnt = s.phaseCnt := rfl
@[simp] theorem State.goto_selPhase : (s.goto c).selPhase = s.selPhase := rfl
@[simp] theorem State.goto_selLit : (s.goto c).selLit = s.selLit := rfl
@[simp] theorem State.goto_dirShadow : (s.goto c).dirShadow = s.dirShadow := rfl
@[simp] theorem State.goto_dir : (s.goto c).dir = s.dir := rfl
@[simp] theorem State.goto_lat : (s.goto c).lat = s.lat := rfl
@[simp] theorem State.goto_toggleCnt : (s.goto c).toggleCnt = s.toggleCnt := rfl
@[simp] theorem State.goto_settleCnt : (s.goto c).settleCnt = s.settleCnt := rfl
@[simp] theorem State.goto_lastMsb : (s.goto c).lastMsb = s.lastMsb := rfl
@[simp] theorem State.goto_rst : (s.goto c).rst = s.rst := rfl
@[simp] theorem State.goto_tmr : (s.goto c).tmr = s.tmr := rfl
@[simp] theorem State.goto_history : (s.goto c).history = s.history := rfl
@[simp] theorem State.goto_board : (s.goto c).board = s.board := rfl
@[simp] theorem State.goto_drawNo : (s.goto c).drawNo = s.drawNo := rfl
@[simp] theorem State.goto_phase : (s.goto c).phase = s.phase := rfl
@[simp] theorem State.goto_timerBit : (s.goto c).timerBit = s.timerBit := rfl

end

section
variable (s : State) (v : Byte)
@[simp] theorem State.writeShadow_ctrlState : (s.writeShadow v).ctrlState = s.ctrlState := rfl
@[simp] theorem State.writeShadow_mask : (s.writeShadow v).mask = s.mask := rfl
@[simp] theorem State.writeShadow_phaseCnt : (s.writeShadow v).phaseCnt = s.phaseCnt := rfl
@[simp] theorem State.writeShadow_selPhase : (s.writeShadow v).selPhase = s.selPhase := rfl
@[simp] theorem State.writeShadow_selLit : (s.writeShadow v).selLit = s.selLit := rfl
@[simp] theorem State.writeShadow_dirShadow : (s.writeShadow v).dirShadow = v := rfl
@[simp] theorem State.writeShadow_dir : (s.writeShadow v).dir = s.dir := rfl
@[simp] theorem State.writeShadow_lat : (s.writeShadow v).lat = s.lat := rfl
@[simp] theorem State.writeShadow_toggleCnt : (s.writeShadow v).toggleCnt = s.toggleCnt := rfl
@[simp] theorem State.writeShadow_settleCnt : (s.writeShadow v).settleCnt = s.settleCnt := rfl
@[simp] theorem State.writeShadow_lastMsb : (s.writeShadow v).lastMsb = s.lastMsb := rfl
@[simp] theorem State.writeShadow_rst : (s.writeShadow v).rst = s.rst := rfl
@[simp] theorem State.writeShadow_tmr : (s.writeShadow v).tmr = s.tmr := rfl
@[simp] theorem State.writeShadow_history : (s.writeShadow v).history = s.history ++ [.shadowWrite v] := rfl
@[simp] theorem State.writeShadow_board : (s.writeShadow v).board = s.board := rfl
@[simp] theorem State.writeShadow_drawNo : (s.writeShadow v).drawNo = s.drawNo := rfl
@[simp] theorem State.writeShadow_phase : (s.writeShadow v).phase = s.phase := rfl
@[simp] theorem State.writeShadow_timerBit : (s.writeShadow v).timerBit = s.timerBit := rfl

end

section
variable (s : State) (v : Byte)
@[simp] theorem State.writeDir_ctrlState : (s.writeDir v).ctrlState = s.ctrlState := rfl
@[simp] theorem State.writeDir_mask : (s.writeDir v).mask = s.mask := rfl
@[simp] theorem State.writeDir_phaseCnt : (s.writeDir v).phaseCnt = s.phaseCnt := rfl
@[simp] theorem State.writeDir_selPhase : (s.writeDir v).selPhase = s.selPhase := rfl
@[simp] theorem State.writeDir_selLit : (s.writeDir v).selLit = s.selLit := rfl
@[simp] theorem State.writeDir_dirShadow : (s.writeDir v).dirShadow = s.dirShadow := rfl
@[simp] theorem State.writeDir_dir : (s.writeDir v).dir = v := rfl
@[simp] theorem State.writeDir_lat : (s.writeDir v).lat = s.lat := rfl
@[simp] theorem State.writeDir_toggleCnt : (s.writeDir v).toggleCnt = s.toggleCnt := rfl
@[simp] theorem State.writeDir_settleCnt : (s.writeDir v).settleCnt = s.settleCnt := rfl
@[simp] theorem State.writeDir_lastMsb : (s.writeDir v).lastMsb = s.lastMsb := rfl
@[simp] theorem State.writeDir_rst : (s.writeDir v).rst = s.rst := rfl
@[simp] theorem State.writeDir_tmr : (s.writeDir v).tmr = s.tmr := rfl
@[simp] theorem State.writeDir_history : (s.writeDir v).history = s.history ++ [.dirWrite v] := rfl
@[simp] theorem State.writeDir_board : (s.writeDir v).board = s.board := rfl
@[simp] theorem State.writeDir_drawNo : (s.writeDir v).drawNo = s.drawNo := rfl
@[simp] theorem State.writeDir_phase : (s.writeDir v).phase = s.phase := rfl
@[simp] theorem State.writeDir_timerBit : (s.writeDir v).timerBit = s.timerBit := rfl

end

section
variable (s : State) (v : Byte)
@[simp] theorem State.writeLat_ctrlState : (s.writeLat v).ctrlState = s.ctrlState := rfl
@[simp] theorem State.writeLat_mask : (s.writeLat v).mask = s.mask := rfl
@[simp] theorem State.writeLat_phaseCnt : (s.writeLat v).phaseCnt = s.phaseCnt := rfl
@[simp] theorem State.writeLat_selPhase : (s.writeLat v).selPhase = s.selPhase := rfl
@[simp] theorem State.writeLat_selLit : (s.writeLat v).selLit = s.selLit := rfl
@[simp] theorem State.writeLat_dirShadow : (s.writeLat v).dirShadow = s.dirShadow := rfl
@[simp] theorem State.writeLat_dir : (s.writeLat v).dir = s.dir := rfl
@[simp] theorem State.writeLat_lat : (s.writeLat v).lat = v := rfl
@[simp] theorem State.writeLat_toggleCnt : (s.writeLat v).toggleCnt = s.toggleCnt := rfl
@[simp] theorem State.writeLat_settleCnt : (s.writeLat v).settleCnt = s.settleCnt := rfl
@[simp] theorem State.writeLat_lastMsb : (s.writeLat v).lastMsb = s.lastMsb := rfl
@[simp] theorem State.writeLat_rst : (s.writeLat v).rst = s.rst := rfl
@[simp] theorem State.writeLat_tmr : (s.writeLat v).tmr = s.tmr := rfl
@[simp] theorem State.writeLat_history : (s.writeLat v).history = s.history ++ [.latWrite v] := rfl
@[simp] theorem State.writeLat_board : (s.writeLat v).board = s.board := rfl
@[simp] theorem State.writeLat_drawNo : (s.writeLat v).drawNo = s.drawNo := rfl
@[simp] theorem State.writeLat_phase : (s.writeLat v).phase = s.phase := rfl
@[simp] theorem State.writeLat_timerBit : (s.writeLat v).timerBit = s.timerBit := rfl

end

section
variable (s : State) (v : Byte)
@[simp] theorem State.setDirection_ctrlState : (s.setDirection v).ctrlState = s.ctrlState := rfl
@[simp] theorem State.setDirection_mask : (s.setDirection v).mask = s.mask := rfl
@[simp] theorem State.setDirection_phaseCnt : (s.setDirection v).phaseCnt = s.phaseCnt := rfl
@[simp] theorem State.setDirection_selPhase : (s.setDirection v).selPhase = s.selPhase := rfl
@[simp] theorem State.setDirection_selLit : (s.setDirection v).selLit = s.selLit := rfl
@[simp] theorem State.setDirection_dirShadow : (s.setDirection v).dirShadow = v := rfl
@[simp] theorem State.setDirection_dir : (s.setDirection v).dir = v := rfl
@[simp] theorem State.setDirection_lat : (s.setDirection v).lat = s.lat := rfl
@[simp] theorem State.setDirection_toggleCnt : (s.setDirection v).toggleCnt = s.toggleCnt := rfl
@[simp] theorem State.setDirection_settleCnt : (s.setDirection v).settleCnt = s.settleCnt := rfl
@[simp] theorem State.setDirection_lastMsb : (s.setDirection v).lastMsb = s.lastMsb := rfl
@[simp] theorem State.setDirection_rst : (s.setDirection v).rst = s.rst := rfl
@[simp] theorem State.setDirection_tmr : (s.setDirection v).tmr = s.tmr := rfl
@[simp] theorem State.setDirection_history : (s.setDirection v).history = s.history ++ [.shadowWrite v] ++ [.dirWrite v] := rfl
@[simp] theorem State.setDirection_board : (s.setDirection v).board = s.board := rfl
@[simp] theorem State.setDirection_drawNo : (s.setDirection v).drawNo = s.drawNo := rfl
@[simp] theorem State.setDirection_phase : (s.setDirection v).phase = s.phase := rfl
@[simp] theorem State.setDirection_timerBit : (s.setDirection v).timerBit = s.timerBit := rfl

end

section
variable (s : State) (v : Byte)
@[simp] theorem State.setMask_ctrlState : (s.setMask v).ctrlState = s.ctrlState := rfl
@[simp] theorem State.setMask_mask : (s.setMask v).mask = v := rfl
@[simp] theorem State.setMask_phaseCnt : (s.setMask v).phaseCnt = s.phaseCnt := rfl
@[simp] theorem State.setMask_selPhase : (s.setMask v).selPhase = s.selPhase := rfl
@[simp] theorem State.setMask_selLit : (s.setMask v).selLit = s.selLit := rfl
@[simp] theorem State.setMask_dirShadow : (s.setMask v).dirShadow = s.dirShadow := rfl
@[simp] theorem State.setMask_dir : (s.setMask v).dir = s.dir := rfl
@[simp] theorem State.setMask_lat : (s.setMask v).lat = s.lat := rfl
@[simp] theorem State.setMask_toggleCnt : (s.setMask v).toggleCnt = s.toggleCnt := rfl
@[simp] theorem State.setMask_settleCnt : (s.setMask v).settleCnt = s.settleCnt := rfl
@[simp] theorem State.setMask_lastMsb : (s.setMask v).lastMsb = s.lastMsb := rfl
@[simp] theorem State.setMask_rst : (s.setMask v).rst = s.rst := rfl
@[simp] theorem State.setMask_tmr : (s.setMask v).tmr = s.tmr := rfl
@[simp] theorem State.setMask_history : (s.setMask v).history = s.history := rfl
@[simp] theorem State.setMask_board : (s.setMask v).board = s.board := rfl
@[simp] theorem State.setMask_drawNo : (s.setMask v).drawNo = s.drawNo := rfl
@[simp] theorem State.setMask_phase : (s.setMask v).phase = s.phase := rfl
@[simp] theorem State.setMask_timerBit : (s.setMask v).timerBit = s.timerBit := rfl

end

section
variable (s : State) (c : BitVec 4)
@[simp] theorem State.setPhaseCnt_ctrlState : (s.setPhaseCnt c).ctrlState = s.ctrlState := rfl
@[simp] theorem State.setPhaseCnt_mask : (s.setPhaseCnt c).mask = s.mask := rfl
@[simp] theorem State.setPhaseCnt_phaseCnt : (s.setPhaseCnt c).phaseCnt = c := rfl
@[simp] theorem State.setPhaseCnt_selPhase : (s.setPhaseCnt c).selPhase = s.selPhase := rfl
@[simp] theorem State.setPhaseCnt_selLit : (s.setPhaseCnt c).selLit = s.selLit := rfl
@[simp] theorem State.setPhaseCnt_dirShadow : (s.setPhaseCnt c).dirShadow = s.dirShadow := rfl
@[simp] theorem State.setPhaseCnt_dir : (s.setPhaseCnt c).dir = s.dir := rfl
@[simp] theorem State.setPhaseCnt_lat : (s.setPhaseCnt c).lat = s.lat := rfl
@[simp] theorem State.setPhaseCnt_toggleCnt : (s.setPhaseCnt c).toggleCnt = s.toggleCnt := rfl
@[simp] theorem State.setPhaseCnt_settleCnt : (s.setPhaseCnt c).settleCnt = s.settleCnt := rfl
@[simp] theorem State.setPhaseCnt_lastMsb : (s.setPhaseCnt c).lastMsb = s.lastMsb := rfl
@[simp] theorem State.setPhaseCnt_rst : (s.setPhaseCnt c).rst = s.rst := rfl
@[simp] theorem State.setPhaseCnt_tmr : (s.setPhaseCnt c).tmr = s.tmr := rfl
@[simp] theorem State.setPhaseCnt_history : (s.setPhaseCnt c).history = s.history := rfl
@[simp] theorem State.setPhaseCnt_board : (s.setPhaseCnt c).board = s.board := rfl
@[simp] theorem State.setPhaseCnt_drawNo : (s.setPhaseCnt c).drawNo = s.drawNo := rfl
@[simp] theorem State.setPhaseCnt_phase : (s.setPhaseCnt c).phase = s.phase := rfl
@[simp] theorem State.setPhaseCnt_timerBit : (s.setPhaseCnt c).timerBit = s.timerBit := rfl

end

section
variable (s : State) (p : BitVec 3) (lit : Bool)
@[simp] theorem State.setSelection_ctrlState : (s.setSelection p lit).ctrlState = s.ctrlState := rfl
@[simp] theorem State.setSelection_mask : (s.setSelection p lit).mask = s.mask := rfl
@[simp] theorem State.setSelection_phaseCnt : (s.setSelection p lit).phaseCnt = s.phaseCnt := rfl
@[simp] theorem State.setSelection_selPhase : (s.setSelection p lit).selPhase = p := rfl
@[simp] theorem State.setSelection_selLit : (s.setSelection p lit).selLit = lit := rfl
@[simp] theorem State.setSelection_dirShadow : (s.setSelection p lit).dirShadow = s.dirShadow := rfl
@[simp] theorem State.setSelection_dir : (s.setSelection p lit).dir = s.dir := rfl
@[simp] theorem State.setSelection_lat : (s.setSelection p lit).lat = s.lat := rfl
@[simp] theorem State.setSelection_toggleCnt : (s.setSelection p lit).toggleCnt = s.toggleCnt := rfl
@[simp] theorem State.setSelection_settleCnt : (s.setSelection p lit).settleCnt = s.settleCnt := rfl
@[simp] theorem State.setSelection_lastMsb : (s.setSelection p lit).lastMsb = s.lastMsb := rfl
@[simp] theorem State.setSelection_rst : (s.setSelection p lit).rst = s.rst := rfl
@[simp] theorem State.setSelection_tmr : (s.setSelection p lit).tmr = s.tmr := rfl
@[simp] theorem State.setSelection_history : (s.setSelection p lit).history = s.history := rfl
@[simp] theorem State.setSelection_board : (s.setSelection p lit).board = s.board := rfl
@[simp] theorem State.setSelection_drawNo : (s.setSelection p lit).drawNo = s.drawNo := rfl
@[simp] theorem State.setSelection_phase : (s.setSelection p lit).phase = p.toFin := rfl
@[simp] theorem State.setSelection_timerBit : (s.setSelection p lit).timerBit = s.timerBit := rfl

end

section
variable (s : State) (v : Byte)
@[simp] theorem State.setToggleCnt_ctrlState : (s.setToggleCnt v).ctrlState = s.ctrlState := rfl
@[simp] theorem State.setToggleCnt_mask : (s.setToggleCnt v).mask = s.mask := rfl
@[simp] theorem State.setToggleCnt_phaseCnt : (s.setToggleCnt v).phaseCnt = s.phaseCnt := rfl
@[simp] theorem State.setToggleCnt_selPhase : (s.setToggleCnt v).selPhase = s.selPhase := rfl
@[simp] theorem State.setToggleCnt_selLit : (s.setToggleCnt v).selLit = s.selLit := rfl
@[simp] theorem State.setToggleCnt_dirShadow : (s.setToggleCnt v).dirShadow = s.dirShadow := rfl
@[simp] theorem State.setToggleCnt_dir : (s.setToggleCnt v).dir = s.dir := rfl
@[simp] theorem State.setToggleCnt_lat : (s.setToggleCnt v).lat = s.lat := rfl
@[simp] theorem State.setToggleCnt_toggleCnt : (s.setToggleCnt v).toggleCnt = v := rfl
@[simp] theorem State.setToggleCnt_settleCnt : (s.setToggleCnt v).settleCnt = s.settleCnt := rfl
@[simp] theorem State.setToggleCnt_lastMsb : (s.setToggleCnt v).lastMsb = s.lastMsb := rfl
@[simp] theorem State.setToggleCnt_rst : (s.setToggleCnt v).rst = s.rst := rfl
@[simp] theorem State.setToggleCnt_tmr : (s.setToggleCnt v).tmr = s.tmr := rfl
@[simp] theorem State.setToggleCnt_history : (s.setToggleCnt v).history = s.history := rfl
@[simp] theorem State.setToggleCnt_board : (s.setToggleCnt v).board = s.board := rfl
@[simp] theorem State.setToggleCnt_drawNo : (s.setToggleCnt v).drawNo = s.drawNo := rfl
@[simp] theorem State.setToggleCnt_phase : (s.setToggleCnt v).phase = s.phase := rfl
@[simp] theorem State.setToggleCnt_timerBit : (s.setToggleCnt v).timerBit = s.timerBit := rfl

end

section
variable (s : State) (v : Byte)
@[simp] theorem State.setSettleCnt_ctrlState : (s.setSettleCnt v).ctrlState = s.ctrlState := rfl
@[simp] theorem State.setSettleCnt_mask : (s.setSettleCnt v).mask = s.mask := rfl
@[simp] theorem State.setSettleCnt_phaseCnt : (s.setSettleCnt v).phaseCnt = s.phaseCnt := rfl
@[simp] theorem State.setSettleCnt_selPhase : (s.setSettleCnt v).selPhase = s.selPhase := rfl
@[simp] theorem State.setSettleCnt_selLit : (s.setSettleCnt v).selLit = s.selLit := rfl
@[simp] theorem State.setSettleCnt_dirShadow : (s.setSettleCnt v).dirShadow = s.dirShadow := rfl
@[simp] theorem State.setSettleCnt_dir : (s.setSettleCnt v).dir = s.dir := rfl
@[simp] theorem State.setSettleCnt_lat : (s.setSettleCnt v).lat = s.lat := rfl
@[simp] theorem State.setSettleCnt_toggleCnt : (s.setSettleCnt v).toggleCnt = s.toggleCnt := rfl
@[simp] theorem State.setSettleCnt_settleCnt : (s.setSettleCnt v).settleCnt = v := rfl
@[simp] theorem State.setSettleCnt_lastMsb : (s.setSettleCnt v).lastMsb = s.lastMsb := rfl
@[simp] theorem State.setSettleCnt_rst : (s.setSettleCnt v).rst = s.rst := rfl
@[simp] theorem State.setSettleCnt_tmr : (s.setSettleCnt v).tmr = s.tmr := rfl
@[simp] theorem State.setSettleCnt_history : (s.setSettleCnt v).history = s.history := rfl
@[simp] theorem State.setSettleCnt_board : (s.setSettleCnt v).board = s.board := rfl
@[simp] theorem State.setSettleCnt_drawNo : (s.setSettleCnt v).drawNo = s.drawNo := rfl
@[simp] theorem State.setSettleCnt_phase : (s.setSettleCnt v).phase = s.phase := rfl
@[simp] theorem State.setSettleCnt_timerBit : (s.setSettleCnt v).timerBit = s.timerBit := rfl

end

section
variable (s : State) (b : Bool)
@[simp] theorem State.setLastMsb_ctrlState : (s.setLastMsb b).ctrlState = s.ctrlState := rfl
@[simp] theorem State.setLastMsb_mask : (s.setLastMsb b).mask = s.mask := rfl
@[simp] theorem State.setLastMsb_phaseCnt : (s.setLastMsb b).phaseCnt = s.phaseCnt := rfl
@[simp] theorem State.setLastMsb_selPhase : (s.setLastMsb b).selPhase = s.selPhase := rfl
@[simp] theorem State.setLastMsb_selLit : (s.setLastMsb b).selLit = s.selLit := rfl
@[simp] theorem State.setLastMsb_dirShadow : (s.setLastMsb b).dirShadow = s.dirShadow := rfl
@[simp] theorem State.setLastMsb_dir : (s.setLastMsb b).dir = s.dir := rfl
@[simp] theorem State.setLastMsb_lat : (s.setLastMsb b).lat = s.lat := rfl
@[simp] theorem State.setLastMsb_toggleCnt : (s.setLastMsb b).toggleCnt = s.toggleCnt := rfl
@[simp] theorem State.setLastMsb_settleCnt : (s.setLastMsb b).settleCnt = s.settleCnt := rfl
@[simp] theorem State.setLastMsb_lastMsb : (s.setLastMsb b).lastMsb = b := rfl
@[simp] theorem State.setLastMsb_rst : (s.setLastMsb b).rst = s.rst := rfl
@[simp] theorem State.setLastMsb_tmr : (s.setLastMsb b).tmr = s.tmr := rfl
@[simp] theorem State.setLastMsb_history : (s.setLastMsb b).history = s.history := rfl
@[simp] theorem State.setLastMsb_board : (s.setLastMsb b).board = s.board := rfl
@[simp] theorem State.setLastMsb_drawNo : (s.setLastMsb b).drawNo = s.drawNo := rfl
@[simp] theorem State.setLastMsb_phase : (s.setLastMsb b).phase = s.phase := rfl
@[simp] theorem State.setLastMsb_timerBit : (s.setLastMsb b).timerBit = s.timerBit := rfl

end

section
variable (s : State)
@[simp] theorem State.sampleTmr_ctrlState : s.sampleTmr.ctrlState = s.ctrlState := rfl
@[simp] theorem State.sampleTmr_mask : s.sampleTmr.mask = s.mask := rfl
@[simp] theorem State.sampleTmr_phaseCnt : s.sampleTmr.phaseCnt = s.phaseCnt := rfl
@[simp] theorem State.sampleTmr_selPhase : s.sampleTmr.selPhase = s.selPhase := rfl
@[simp] theorem State.sampleTmr_selLit : s.sampleTmr.selLit = s.selLit := rfl
@[simp] theorem State.sampleTmr_dirShadow : s.sampleTmr.dirShadow = s.dirShadow := rfl
@[simp] theorem State.sampleTmr_dir : s.sampleTmr.dir = s.dir := rfl
@[simp] theorem State.sampleTmr_lat : s.sampleTmr.lat = s.lat := rfl
@[simp] theorem State.sampleTmr_toggleCnt : s.sampleTmr.toggleCnt = s.toggleCnt := rfl
@[simp] theorem State.sampleTmr_settleCnt : s.sampleTmr.settleCnt = s.settleCnt := rfl
@[simp] theorem State.sampleTmr_lastMsb : s.sampleTmr.lastMsb = s.lastMsb := rfl
@[simp] theorem State.sampleTmr_rst : s.sampleTmr.rst = s.rst := rfl
@[simp] theorem State.sampleTmr_tmr : s.sampleTmr.tmr = s.tmr := rfl
@[simp] theorem State.sampleTmr_history : s.sampleTmr.history = s.history ++ [.tmrSample s.timerBit] := rfl
@[simp] theorem State.sampleTmr_board : s.sampleTmr.board = s.board := rfl
@[simp] theorem State.sampleTmr_drawNo : s.sampleTmr.drawNo = s.drawNo := rfl
@[simp] theorem State.sampleTmr_phase : s.sampleTmr.phase = s.phase := rfl
@[simp] theorem State.sampleTmr_timerBit : s.sampleTmr.timerBit = s.timerBit := rfl

end

section
variable (s : State) (r : Bool) (v : Nat)
@[simp] theorem State.withInputs_ctrlState : (s.withInputs r v).ctrlState = s.ctrlState := rfl
@[simp] theorem State.withInputs_mask : (s.withInputs r v).mask = s.mask := rfl
@[simp] theorem State.withInputs_phaseCnt : (s.withInputs r v).phaseCnt = s.phaseCnt := rfl
@[simp] theorem State.withInputs_selPhase : (s.withInputs r v).selPhase = s.selPhase := rfl
@[simp] theorem State.withInputs_selLit : (s.withInputs r v).selLit = s.selLit := rfl
@[simp] theorem State.withInputs_dirShadow : (s.withInputs r v).dirShadow = s.dirShadow := rfl
@[simp] theorem State.withInputs_dir : (s.withInputs r v).dir = s.dir := rfl
@[simp] theorem State.withInputs_lat : (s.withInputs r v).lat = s.lat := rfl
@[simp] theorem State.withInputs_toggleCnt : (s.withInputs r v).toggleCnt = s.toggleCnt := rfl
@[simp] theorem State.withInputs_settleCnt : (s.withInputs r v).settleCnt = s.settleCnt := rfl
@[simp] theorem State.withInputs_lastMsb : (s.withInputs r v).lastMsb = s.lastMsb := rfl
@[simp] theorem State.withInputs_rst : (s.withInputs r v).rst = r := rfl
@[simp] theorem State.withInputs_tmr : (s.withInputs r v).tmr = s.board.config.timer.cut v := rfl
@[simp] theorem State.withInputs_history : (s.withInputs r v).history = s.history := rfl
@[simp] theorem State.withInputs_board : (s.withInputs r v).board = s.board := rfl
@[simp] theorem State.withInputs_drawNo : (s.withInputs r v).drawNo = s.drawNo := rfl
@[simp] theorem State.withInputs_phase : (s.withInputs r v).phase = s.phase := rfl
@[simp] theorem State.withInputs_timerBit : (s.withInputs r v).timerBit = s.board.config.timer.bit v := Timer.bit_cut _ _

end

section
variable (s : State)
@[simp] theorem State.presentInputs_ctrlState : s.presentInputs.ctrlState = s.ctrlState := rfl
@[simp] theorem State.presentInputs_mask : s.presentInputs.mask = s.mask := rfl
@[simp] theorem State.presentInputs_phaseCnt : s.presentInputs.phaseCnt = s.phaseCnt := rfl
@[simp] theorem State.presentInputs_selPhase : s.presentInputs.selPhase = s.selPhase := rfl
@[simp] theorem State.presentInputs_selLit : s.presentInputs.selLit = s.selLit := rfl
@[simp] theorem State.presentInputs_dirShadow : s.presentInputs.dirShadow = s.dirShadow := rfl
@[simp] theorem State.presentInputs_dir : s.presentInputs.dir = s.dir := rfl
@[simp] theorem State.presentInputs_lat : s.presentInputs.lat = s.lat := rfl
@[simp] theorem State.presentInputs_toggleCnt : s.presentInputs.toggleCnt = s.toggleCnt := rfl
@[simp] theorem State.presentInputs_settleCnt : s.presentInputs.settleCnt = s.settleCnt := rfl
@[simp] theorem State.presentInputs_lastMsb : s.presentInputs.lastMsb = s.lastMsb := rfl
@[simp] theorem State.presentInputs_rst : s.presentInputs.rst = Config.freeRst s.drawNo := rfl
@[simp] theorem State.presentInputs_tmr : s.presentInputs.tmr = s.board.config.timer.cut (Config.freeTmr s.drawNo) := rfl
@[simp] theorem State.presentInputs_history : s.presentInputs.history = s.history := rfl
@[simp] theorem State.presentInputs_board : s.presentInputs.board = s.board := rfl
@[simp] theorem State.presentInputs_drawNo : s.presentInputs.drawNo = s.drawNo + 1 := rfl
@[simp] theorem State.presentInputs_phase : s.presentInputs.phase = s.phase := rfl
@[simp] theorem State.presentInputs_timerBit : s.presentInputs.timerBit = s.board.config.timer.bit (Config.freeTmr s.drawNo) := Timer.bit_cut _ _

end

section
variable (s : State) (w : Opw)
@[simp] theorem State.placeOpw_ctrlState : (s.placeOpw w).ctrlState = opwCtrl w := rfl
@[simp] theorem State.placeOpw_mask : (s.placeOpw w).mask = s.mask := rfl
@[simp] theorem State.placeOpw_phaseCnt : (s.placeOpw w).phaseCnt = s.phaseCnt := rfl
@[simp] theorem State.placeOpw_selPhase : (s.placeOpw w).selPhase = s.selPhase := rfl
@[simp] theorem State.placeOpw_selLit : (s.placeOpw w).selLit = s.selLit := rfl
@[simp] theorem State.placeOpw_dirShadow : (s.placeOpw w).dirShadow = s.dirShadow := rfl
@[simp] theorem State.placeOpw_dir : (s.placeOpw w).dir = s.dir := rfl
@[simp] theorem State.placeOpw_lat : (s.placeOpw w).lat = s.lat := rfl
@[simp] theorem State.placeOpw_toggleCnt : (s.placeOpw w).toggleCnt = s.toggleCnt := rfl
@[simp] theorem State.placeOpw_settleCnt : (s.placeOpw w).settleCnt = s.settleCnt := rfl
@[simp] theorem State.placeOpw_lastMsb : (s.placeOpw w).lastMsb = s.lastMsb := rfl
@[simp] theorem State.placeOpw_rst : (s.placeOpw w).rst = opwRst w := rfl
@[simp] theorem State.placeOpw_tmr : (s.placeOpw w).tmr = s.tmr := rfl
@[simp] theorem State.placeOpw_history : (s.placeOpw w).history = s.history := rfl
@[simp] theorem State.placeOpw_board : (s.placeOpw w).board = s.board := rfl
@[simp] theorem State.placeOpw_drawNo : (s.placeOpw w).drawNo = s.drawNo := rfl
@[simp] theorem State.placeOpw_phase : (s.placeOpw w).phase = s.phase := rfl
@[simp] theorem State.placeOpw_timerBit : (s.placeOpw w).timerBit = s.timerBit := rfl

end

section
variable (s : State) (v : Byte)
@[simp] theorem State.resetRegisters_ctrlState : (s.resetRegisters v).ctrlState = s.ctrlState := rfl
@[simp] theorem State.resetRegisters_mask : (s.resetRegisters v).mask = 0#8 := rfl
@[simp] theorem State.resetRegisters_phaseCnt : (s.resetRegisters v).phaseCnt = 0#4 := rfl
@[simp] theorem State.resetRegisters_selPhase : (s.resetRegisters v).selPhase = 0#3 := rfl
@[simp] theorem State.resetRegisters_selLit : (s.resetRegisters v).selLit = false := rfl
@[simp] theorem State.resetRegisters_dirShadow : (s.resetRegisters v).dirShadow = 0xFF#8 := rfl
@[simp] theorem State.resetRegisters_dir : (s.resetRegisters v).dir = 0xFF#8 := rfl
@[simp] theorem State.resetRegisters_lat : (s.resetRegisters v).lat = v := rfl
@[simp] theorem State.resetRegisters_toggleCnt : (s.resetRegisters v).toggleCnt = s.board.config.stepDelay := rfl
@[simp] theorem State.resetRegisters_settleCnt : (s.resetRegisters v).settleCnt = s.board.config.settleToggles := rfl
@[simp] theorem State.resetRegisters_lastMsb : (s.resetRegisters v).lastMsb = false := rfl
@[simp] theorem State.resetRegisters_rst : (s.resetRegisters v).rst = s.rst := rfl
@[simp] theorem State.resetRegisters_tmr : (s.resetRegisters v).tmr = s.tmr := rfl
@[simp] theorem State.resetRegisters_history : (s.resetRegisters v).history = s.history ++ [.reset] := rfl
@[simp] theorem State.resetRegisters_board : (s.resetRegisters v).board = s.board := rfl
@[simp] theorem State.resetRegisters_drawNo : (s.resetRegisters v).drawNo = s.drawNo := rfl
@[simp] theorem State.resetRegisters_phase : (s.resetRegisters v).phase = 0 := rfl
@[simp] theorem State.resetRegisters_timerBit : (s.resetRegisters v).timerBit = s.timerBit := rfl

end

end Sys2Proof.Machine
end

