-- ==== Sys2Proof/Laws/Exec.lean ====
section
/-!
SUPPORT. Everything an operation can do when it answers a next state, said once: proofs about all operations take these cases
apart and do not unfold the meanings.
-/

namespace Sys2Proof.Machine

/-- `Effect i s t`: operation `i` takes `s` to `t`. A poll has a case with a toggle and a case without. -/
inductive Effect : Instr → State → State → Prop where
  | settleToggle (s : State) (alive : s.settleCnt ≠ 0#8) (toggle : s.toggled = true) :
      Effect .setPoll s (((s.sampleTmr.setLastMsb s.timerBit).setSettleCnt (s.settleCnt - 1#8)).goto
        (if s.settleCnt - 1#8 = 0#8 then sDrvSel else sSettle))
  | settleStill (s : State) (alive : s.settleCnt ≠ 0#8) (still : s.toggled = false) :
      Effect .setPoll s (s.sampleTmr.goto sSettle)
  | select (s : State) (legal : s.phaseCnt ≤ 8#4) :
      Effect .drvSel s (((s.setPhaseCnt (nextPhaseCnt s.phaseCnt)).setSelection (servedPhase s.phaseCnt)
        (s.maskBitOf (servedPhase s.phaseCnt))).goto sDrvOff)
  | off (s : State) :
      Effect .drvOff s ((s.setDirection (s.dirShadow ||| s.board.config.sharedMask)).goto
        (if s.selLit then sDrvLvl else sSchPoll))
  | level (s : State) : Effect .drvLvl s ((s.writeLat (s.board.config.lvlVec s.phase)).goto sDrvEn)
  | enable (s : State) :
      Effect .drvEn s ((s.setDirection (s.dirShadow &&& ~~~(s.board.config.pair s.phase))).goto sSchPoll)
  | pollToggle (s : State) (alive : s.toggleCnt ≠ 0#8) (toggle : s.toggled = true) :
      Effect .schPoll s (((s.sampleTmr.setLastMsb s.timerBit).setToggleCnt (s.toggleCnt - 1#8)).goto
        (if s.toggleCnt - 1#8 = 0#8 then sSchStep else sDrvSel))
  | pollStill (s : State) (alive : s.toggleCnt ≠ 0#8) (still : s.toggled = false) :
      Effect .schPoll s (s.sampleTmr.goto sDrvSel)
  | maskStep (s : State) :
      Effect .schStep s (((s.setMask (s.board.config.maskStep s.mask)).setToggleCnt s.board.config.stepDelay).goto sDrvSel)
  | reset (s : State) : Effect .reset s ((s.resetRegisters (Config.freeLat s.drawNo)).goto sSettle)

/-- An operation that answers a next state has one of the effects. -/
theorem exec_effect {i : Instr} {s t : State} (h : exec i s = .next t) : Effect i s t := by
  cases i with
  | setPoll =>
    simp only [exec, execSetPoll] at h
    split at h
    · cases h
    · rename_i alive
      cases htog : s.toggled <;> simp only [htog, if_true, if_false, Bool.false_eq_true] at h <;> cases h
      · exact .settleStill s alive htog
      · exact .settleToggle s alive htog
  | drvSel =>
    simp only [exec, execDrvSel] at h
    split at h
    · cases h
    · rename_i legal
      cases h
      exact .select s (by bv_omega)
  | drvOff => cases h; exact .off s
  | drvLvl => cases h; exact .level s
  | drvEn => cases h; exact .enable s
  | schPoll =>
    simp only [exec, execSchPoll] at h
    split at h
    · cases h
    · rename_i alive
      cases htog : s.toggled <;> simp only [htog, if_true, if_false, Bool.false_eq_true] at h <;> cases h
      · exact .pollStill s alive htog
      · exact .pollToggle s alive htog
  | schStep => cases h; exact .maskStep s
  | reset => cases h; exact .reset s

/-- An effect is what the operation answers. -/
theorem exec_of_effect {i : Instr} {s t : State} (h : Effect i s t) : exec i s = .next t := by
  cases h with
  | settleToggle _ alive toggle => simp [exec, execSetPoll, alive, toggle]
  | settleStill _ alive still => simp [exec, execSetPoll, alive, still]
  | select _ legal =>
    have : ¬ 9#4 ≤ s.phaseCnt := by bv_omega
    simp only [exec, execDrvSel, if_neg this]
  | off => rfl
  | level => rfl
  | enable => rfl
  | pollToggle _ alive toggle => simp [exec, execSchPoll, alive, toggle]
  | pollStill _ alive still => simp [exec, execSchPoll, alive, still]
  | maskStep => rfl
  | reset => rfl

end Sys2Proof.Machine
end

