-- ==== Sys2Proof/Laws/Outputs.lean ====
section
/-!
SUPPORT. What the pins show, and how many lines are outputs, for the direction vectors the block writes.
-/

namespace Sys2Proof.Machine

/-- All lines inputs: every shared line is at high impedance. -/
theorem dark_of_dir {s : State} (h : s.dir = offVec) : s.Dark := by
  intro k
  have hk := offVec_getLsbD (s.board.config.portBit k)
  rw [State.pin, h, hk]
  simp [s.board.config.portBit_lt k]

/-- A pair enabled with its phase's levels: the pins show the phase. -/
theorem shows_of_vectors {s : State} {p : Fin 8} (hd : s.dir = s.board.config.enVec p)
    (hl : s.lat = s.board.config.lvlVec p) : s.Shows p := by
  have pin_eq : ∀ k, s.pin k =
      if k = (s.board.config.entry p).high then .level true
      else if k = (s.board.config.entry p).low then .level false else .z := by
    intro k
    have inj := fun j => s.board.portBit_injective k j
    rw [State.pin, hd, hl, Config.enVec_getLsbD _ _ _ (s.board.config.portBit_lt k), Config.lvlVec_getLsbD]
    by_cases h : k = (s.board.config.entry p).high
    · simp [h]
    · have h' : ¬ s.board.config.portBit k = s.board.config.portBit (s.board.config.entry p).high :=
        fun e => h (inj _ e)
      by_cases g : k = (s.board.config.entry p).low
      · rw [if_neg h, if_pos g]
        have h'' : ¬ s.board.config.portBit (s.board.config.entry p).low =
            s.board.config.portBit (s.board.config.entry p).high := g ▸ h'
        simp [g, h'']
      · have g' : ¬ s.board.config.portBit k = s.board.config.portBit (s.board.config.entry p).low :=
          fun e => g (inj _ e)
        simp [h, g, h', g']
  refine ⟨by simp [pin_eq], ?_, fun k h g => by simp [pin_eq, h, g]⟩
  simp [pin_eq, (s.board.high_ne_low p).symm]

/-- All lines inputs: no shared line is an output. -/
theorem outputCount_of_off {s : State} (h : s.dir = offVec) : s.outputCount = 0 := by
  rw [State.outputCount, List.countP_eq_zero]
  intro k _
  rw [h, offVec_getLsbD]
  simp [s.board.config.portBit_lt k]

/-- A pair enabled: two shared lines are outputs. -/
theorem outputCount_of_pair {s : State} {p : Fin 8} (h : s.dir = s.board.config.enVec p) : s.outputCount = 2 := by
  have two : ∀ a b : Fin 4, a ≠ b →
      (List.finRange 4).countP (fun k => decide (k = a) || decide (k = b)) = 2 := by decide
  rw [← two _ _ (s.board.high_ne_low p), State.outputCount]
  congr 1
  funext k
  rw [h, Config.enVec_getLsbD _ _ _ (s.board.config.portBit_lt k), Bool.not_not]
  congr 1 <;> exact decide_eq_decide.2 ⟨s.board.portBit_injective _ _, fun e => by rw [e]⟩

end Sys2Proof.Machine
end

