-- ==== Sys2Proof/Laws/PerInstr.lean ====
section
/-!
SUPPORT. The statements made of every instruction, one lemma for each constructor.

The family is about an operation as syntax: the words spec/opcode_table.json gives it, and what the decoder reads from them.
-/

namespace Sys2Proof.Laws.Encoding

/-- The encoder's word of the operation is one of its row's words, the row stands for it, and the decoder reads every word of
the row as this operation and no other word (spec/30_encoding.md R95, R96, R100). -/
def Statement (i : Instr) : Prop :=
  (opcodeRow i).instr = i ∧ (opcodeRow i).Holds (encode i) ∧ (encode i).Legal ∧
    ∀ w : Opw, (opcodeRow i).Holds w ↔ decode w = .ok i

theorem setPoll : Statement .setPoll := by unfold Statement; decide
theorem drvSel : Statement .drvSel := by unfold Statement; decide
theorem drvOff : Statement .drvOff := by unfold Statement; decide
theorem drvLvl : Statement .drvLvl := by unfold Statement; decide
theorem drvEn : Statement .drvEn := by unfold Statement; decide
theorem schPoll : Statement .schPoll := by unfold Statement; decide
theorem schStep : Statement .schStep := by unfold Statement; decide
theorem reset : Statement .reset := by unfold Statement; decide

end Sys2Proof.Laws.Encoding
end

