-- ==== Sys2Proof/Laws/Step.lean ====
section
/-!
SUPPORT. What a step and a run can do, said once: the operation of a word, the inversion of a step, and a run taken apart at its
first step or at any point.
-/

namespace Sys2Proof.Machine

theorem opwRst_opwOf : ∀ (r : Bool) (c : CtrlCode), opwRst (opwOf r c) = r := by decide

theorem opwCtrl_opwOf : ∀ (r : Bool) (c : CtrlCode), opwCtrl (opwOf r c) = c := by decide

/-- The operation of a step: reset first, else the controller state's. -/
theorem decode_opw (s : State) : decode s.opw = if s.rst then .ok .reset else decodeCtrl s.ctrlState := by
  simp [decode, State.opw, opwRst_opwOf, opwCtrl_opwOf]

/-- `finishStep` answers a next state for a next state alone, and then only the inputs and the draw number differ. -/
theorem finishStep_eq_next {r : Result} {t : State} (h : finishStep r = .next t) :
    ∃ u, r = .next u ∧ t = u.presentInputs := by
  cases r with
  | next u => exact ⟨u, rfl, by simpa [finishStep] using h.symm⟩
  | fault f => simp [finishStep] at h
  | refused r => simp [finishStep] at h

/-- A step that answers a next state performed the operation of its word. -/
theorem step_eq_next {s t : State} (h : step s = .next t) :
    ∃ i u, decode s.opw = .ok i ∧ exec i s = .next u ∧ t = u.presentInputs := by
  unfold step at h
  split at h
  · rename_i i hi
    obtain ⟨u, hu, ht⟩ := finishStep_eq_next h
    exact ⟨i, u, hi, hu, ht⟩
  · cases h

/-- A step whose operation answers a next state answers it with the next inputs presented. -/
theorem step_of_exec {s u : State} {i : Instr} (hi : decode s.opw = .ok i) (hu : exec i s = .next u) :
    step s = .next u.presentInputs := by
  simp [step, hi, hu, finishStep]

theorem runWith_cons_next {i : Input} {is : List Input} {s t : State} (h : runWith (i :: is) s = .next t) :
    ∃ u, stepWith s i.rst i.tmr = .next u ∧ runWith is u = .next t := by
  unfold runWith at h
  split at h
  · rename_i u hu
    exact ⟨u, hu, h⟩
  · cases h
  · cases h

theorem runWith_cons_of_step {i : Input} {is : List Input} {s u : State} (h : stepWith s i.rst i.tmr = .next u) :
    runWith (i :: is) s = runWith is u := by
  simp [runWith, h]

/-- A run is a run of its first part and then of its second. -/
theorem runWith_append {is js : List Input} {s u : State} (h : runWith is s = .next u) :
    runWith (is ++ js) s = runWith js u := by
  induction is generalizing s with
  | nil => simp only [runWith, Host.Outcome.next.injEq] at h; simp [h]
  | cons i is ih =>
    obtain ⟨v, hv, hr⟩ := runWith_cons_next h
    rw [List.cons_append, runWith_cons_of_step hv, ih hr]

theorem opsOf_cons_of_step {i : Input} {is : List Input} {s u : State} {op : Instr}
    (hd : decode (s.withInputs i.rst i.tmr).opw = .ok op) (h : stepWith s i.rst i.tmr = .next u) :
    opsOf (i :: is) s = op :: opsOf is u := by
  simp [opsOf, hd, h]

theorem collect_cons_of_step {α : Type} {f : State → α} {i : Input} {is : List Input} {s u : State} {op q : Instr}
    (hd : decode (s.withInputs i.rst i.tmr).opw = .ok op) (h : stepWith s i.rst i.tmr = .next u) :
    collect q f (i :: is) s = if op = q then f u :: collect q f is u else collect q f is u := by
  simp [collect, hd, h]

theorem togglesAt_cons_of_step {i : Input} {is : List Input} {s u : State} {op q : Instr}
    (hd : decode (s.withInputs i.rst i.tmr).opw = .ok op) (h : stepWith s i.rst i.tmr = .next u) :
    togglesAt q (i :: is) s =
      (if op = q ∧ (s.withInputs i.rst i.tmr).toggled then 1 else 0) + togglesAt q is u := by
  simp [togglesAt, hd, h]

/-- What a run collects, in two parts. -/
theorem collect_append {α : Type} {f : State → α} {q : Instr} {is js : List Input} {s u : State}
    (h : runWith is s = .next u) : collect q f (is ++ js) s = collect q f is s ++ collect q f js u := by
  induction is generalizing s with
  | nil => simp only [runWith, Host.Outcome.next.injEq] at h; simp [collect, h]
  | cons i is ih =>
    obtain ⟨v, hv, hr⟩ := runWith_cons_next h
    obtain ⟨op, w, hd, -, -⟩ := step_eq_next hv
    rw [List.cons_append, collect_cons_of_step hd hv, collect_cons_of_step hd hv, ih hr]
    split <;> rfl

/-- The operations of a run, in two parts. -/
theorem opsOf_append {is js : List Input} {s u : State} (h : runWith is s = .next u) :
    opsOf (is ++ js) s = opsOf is s ++ opsOf js u := by
  induction is generalizing s with
  | nil => simp only [runWith, Host.Outcome.next.injEq] at h; simp [opsOf, h]
  | cons i is ih =>
    obtain ⟨v, hv, hr⟩ := runWith_cons_next h
    obtain ⟨op, w, hd, -, -⟩ := step_eq_next hv
    rw [List.cons_append, opsOf_cons_of_step hd hv, opsOf_cons_of_step hd hv, ih hr, List.cons_append]

/-- The invariant speaks of the inputs only by the timer's width, and not of the draw number. -/
theorem Inv.withInputs {s : State} (h : Inv s) (r : Bool) (v : Nat) : Inv (s.withInputs r v) := by
  cases h; constructor <;> first | assumption | exact Timer.cut_lt _ _

theorem Inv.presentInputs {s : State} (h : Inv s) : Inv s.presentInputs := by
  cases h; constructor <;> first | assumption | exact Timer.cut_lt _ _

theorem HistoryInv.withInputs {s : State} (h : HistoryInv s) (r : Bool) (v : Nat) : HistoryInv (s.withInputs r v) := by
  cases h; constructor <;> assumption

theorem HistoryInv.presentInputs {s : State} (h : HistoryInv s) : HistoryInv s.presentInputs := by
  cases h; constructor <;> assumption

end Sys2Proof.Machine
end

