-- ==== Sys2Proof/Tests/Slice0.lean ====
section
/-!
SUPPORT. Tests of single steps, decodings and builds against the vectors of spec/95_test_vectors.md, and for every statement of
Certificates/Slice0/Obligations.lean that has hypotheses a state and operands that meet them.

Every state here is built on the example configuration EX, which is no board's wiring.
-/

namespace Sys2Proof.Tests

open Sys2Proof.Machine

/-! ## Helpers -/

/-- What `f` reads of a next state. -/
def after {α : Type} (r : Result) (f : State → α) : Option α :=
  match r with
  | .next t => some (f t)
  | .fault _ => none
  | .refused _ => none

/-- The answer is a next state with `f` true of it. -/
def endsIn (r : Result) (f : State → Bool) : Bool := (after r f).getD false

/-- The fault an answer stops with. -/
def faultOf (r : Result) : Option Fault :=
  match r with
  | .next _ => none
  | .fault f => some f
  | .refused _ => none

/-- Why a build is refused. -/
def refusalOf (a : ConfigArgs) : Option ConfigRefusal :=
  match a.build with
  | .ok _ => none
  | .error e => some e

/-- The arguments that build EX. -/
def exArgs : ConfigArgs where
  sharedLineBit := ![0, 1, 2, 4]
  maskBit := ![0, 1, 2, 3, 4, 5, 6, 7]
  high := ![0, 1, 1, 2, 2, 3, 0, 2]
  low := ![1, 0, 2, 1, 3, 2, 2, 0]
  settleRaw := 2

/-- EX with `MASK_STEP_KIND` = `SHIFT_FILL`. -/
def exFill : Config := { Config.ex with maskStepKind := .shiftFill }

/-- EX with `STEP_DELAY` = 1. -/
def fastBoard : Board := { config := { Config.ex with stepDelay := 1#8 } }

/-- A block on EX after a reset whose draw of `LAT` was 0x5A, one toggle before the end of its settle wait. -/
def fresh : State where
  ctrlState := sSettle
  mask := 0#8
  phaseCnt := 0#4
  selPhase := 0#3
  selLit := false
  dirShadow := 0xFF#8
  dir := 0xFF#8
  lat := 0x5A#8
  toggleCnt := 64#8
  settleCnt := 1#8
  lastMsb := false
  rst := false
  tmr := 0
  history := [.reset]
  board := {}
  drawNo := 1

/-- The start of program P1 (spec/95_test_vectors.md section 4): a lit refresh of phase 3 has just ended. -/
def litThree : State :=
  { fresh with
    ctrlState := sSchPoll, mask := 0x08#8, phaseCnt := 3#4, selPhase := 3#3, selLit := true, dirShadow := 0xF9#8,
    dir := 0xF9#8, lat := 0x04#8, toggleCnt := 7#8, settleCnt := 0#8, lastMsb := true }

/-- A dark refresh of phase 4 has ended, and the next one is of phase 3, lit. -/
def beforeThree : State :=
  { litThree with ctrlState := sDrvSel, phaseCnt := 4#4, selPhase := 4#3, selLit := false, dirShadow := 0xFF#8, dir := 0xFF#8 }

/-- Inside the lit refresh of phase 3, before `DRV.LVL`, with the history of that refresh. -/
def levelThree : State :=
  { litThree with
    ctrlState := sDrvLvl, dirShadow := 0xFF#8, dir := 0xFF#8, lat := 0x5A#8,
    history := [.reset, .shadowWrite 0xFF#8, .dirWrite 0xFF#8] }

/-- Inside the lit refresh of phase 3, before `DRV.EN`. -/
def enableThree : State :=
  { levelThree with
    ctrlState := sDrvEn, lat := 0x04#8, history := [.reset, .shadowWrite 0xFF#8, .dirWrite 0xFF#8, .latWrite 0x04#8] }

/-- A step without reset whose timer bit is 0. -/
def low : Input := ⟨false, 0x00⟩

/-- A step without reset whose timer bit is 1, the bits below it set or not. -/
def high : Input := ⟨false, 0x80⟩

/-! ## Ill-formed configurations, and the reserved word -/

theorem test_ex_accepted : refusalOf exArgs = none ∧ exArgs.config = Config.ex := by decide
theorem test_lines_repeat : refusalOf { exArgs with sharedLineBit := ![0, 1, 1, 4] } = some .linesRepeat := by decide
theorem test_line_outside : refusalOf { exArgs with sharedLineBit := ![0, 1, 2, 8] } = some .lineOutsidePort := by decide
theorem test_entry_outside :
    refusalOf { exArgs with high := ![4, 1, 1, 2, 2, 3, 0, 2] } = some .entryOutOfRange := by decide
theorem test_high_is_low : refusalOf { exArgs with low := ![1, 0, 1, 1, 3, 2, 2, 0] } = some .highIsLow := by decide
theorem test_mask_bit_twice :
    refusalOf { exArgs with maskBit := ![0, 1, 2, 3, 4, 5, 6, 0] } = some .maskBitsNotBijective := by decide
theorem test_pair_twice :
    refusalOf { exArgs with high := ![0, 1, 1, 2, 2, 3, 0, 0], low := ![1, 0, 2, 1, 3, 2, 2, 1] } =
      some .pairsRepeat := by decide
theorem test_step_delay_bounds :
    refusalOf { exArgs with stepDelay := 0 } = some .stepDelayOutOfRange ∧
      refusalOf { exArgs with stepDelay := 256 } = some .stepDelayOutOfRange ∧
      refusalOf { exArgs with stepDelay := 1 } = none ∧ refusalOf { exArgs with stepDelay := 255 } = none := by decide
theorem test_settle_raw_never_refused :
    refusalOf { exArgs with settleRaw := 0 } = none ∧ refusalOf { exArgs with settleRaw := 1000 } = none := by decide
theorem test_reserved_word_illegal : ¬ Opw.Legal 0b0111#4 := by decide

/-! ## Decoding (section 3.9) and the derived operands (section 1) -/

/-- Q1 to Q9, each word written out as {`RST`, `CTRL_STATE`}. -/
theorem test_decode_words :
    decode 0b0000#4 = .ok .setPoll ∧ decode 0b0001#4 = .ok .drvSel ∧ decode 0b0010#4 = .ok .drvOff ∧
      decode 0b0011#4 = .ok .drvLvl ∧ decode 0b0100#4 = .ok .drvEn ∧ decode 0b0101#4 = .ok .schPoll ∧
      decode 0b0110#4 = .ok .schStep ∧ decode 0b0111#4 = .error .reservedCtrlState ∧
      decode 0b1000#4 = .ok .reset ∧ decode 0b1111#4 = .ok .reset := by decide
theorem test_table_words :
    decodeTableWord 4 6 = some .schStep ∧ decodeTableWord 8 13 = some .reset ∧ decodeTableWord 4 7 = none ∧
      decodeTableWord 8 0x21 = none := by decide
/-- A table word placed for the next step is the word that step decodes. -/
theorem test_fetch_word :
    decode (fresh.withFetchWord 4 3).opw = .ok .drvLvl ∧ decode (fresh.withFetchWord 4 8).opw = .ok .reset ∧
      decode (fresh.withFetchWord 8 0).opw = .ok .setPoll := by decide
theorem test_packed_entries :
    (List.finRange 8).map (fun p => packEntry (Config.ex.entry p)) =
      [0x01#7, 0x14#7, 0x26#7, 0x39#7, 0x4B#7, 0x5E#7, 0x62#7, 0x78#7] := by decide
/-- The mask bit of a phase is its entry's and not the phase's number (section 3.1, last sentence). -/
theorem test_mask_bit_by_table :
    let swapped : Board := { config := { Config.ex with phaseTable := (Config.ex.phaseTable.set 3 ⟨6, 2, 1⟩).set 6 ⟨3, 0, 2⟩ } }
    ({ fresh with board := swapped, mask := 0x40#8 } : State).maskBitOf 3#3 = true := by decide
theorem test_vector_table :
    Config.ex.sharedMask = 0x17#8 ∧ Config.ex.vectorTable =
      [(0xFC#8, 0x01#8), (0xFC#8, 0x02#8), (0xF9#8, 0x02#8), (0xF9#8, 0x04#8), (0xEB#8, 0x04#8), (0xEB#8, 0x10#8),
        (0xFA#8, 0x01#8), (0xFA#8, 0x04#8)] := by decide
/-- W6: the clamp and its flag, at both bounds and past them. -/
theorem test_settle_clamp :
    [0, 1, 2, 255, 256, -7].map (fun r => ({ Config.ex with settleRaw := r } : Config).settleToggles) =
        [1#8, 1#8, 2#8, 255#8, 255#8, 1#8] ∧
      [0, 1, 255, 256].map (fun r => ({ Config.ex with settleRaw := r } : Config).clamped) =
        [true, false, false, true] := by decide
/-- M1 to M11 under both kinds. -/
theorem test_mask_step :
    [0x00#8, 0x01#8, 0x40#8, 0x80#8, 0x03#8, 0x81#8, 0xC0#8, 0xFF#8, 0x55#8, 0xAA#8, 0x7F#8].map Config.ex.maskStep =
        [0x01#8, 0x02#8, 0x80#8, 0x01#8, 0x06#8, 0x03#8, 0x81#8, 0xFF#8, 0xAA#8, 0x55#8, 0xFE#8] ∧
      [0x00#8, 0x01#8, 0x40#8, 0x80#8, 0x03#8, 0x81#8, 0xC0#8, 0xFF#8, 0x55#8, 0xAA#8, 0x7F#8].map exFill.maskStep =
        [0x01#8, 0x02#8, 0x80#8, 0x01#8, 0x06#8, 0x02#8, 0x80#8, 0xFE#8, 0xAA#8, 0x54#8, 0xFE#8] := by decide

/-! ## One step of each operation (sections 3.1 to 3.8) -/

/-- S1, S3, S4, S5 and S7: the phase served, the counter left and the mask bit tested. -/
theorem test_drvSel_phases :
    [(0#4, 0x00#8), (1#4, 0x01#8), (2#4, 0x02#8), (8#4, 0x80#8), (5#4, 0xFF#8)].map (fun x =>
        after (exec .drvSel { beforeThree with phaseCnt := x.1, mask := x.2 }) fun t => (t.phaseCnt, t.selPhase, t.selLit)) =
      [some (8#4, 0#3, false), some (8#4, 0#3, true), some (1#4, 1#3, true), some (7#4, 7#3, true),
        some (4#4, 4#3, true)] := by decide
/-- S8. -/
theorem test_drvSel_reserved :
    faultOf (exec .drvSel { beforeThree with phaseCnt := 9#4 }) =
      some (.phaseCounterReserved { beforeThree with phaseCnt := 9#4 }) := by decide
/-- O4, from phase 3's vector: the shadow is written before the register. -/
theorem test_drvOff_events :
    after (exec .drvOff litThree) (fun t => (t.history, t.ctrlState)) =
      some ([.reset, .shadowWrite 0xFF#8, .dirWrite 0xFF#8], sDrvLvl) := by decide
/-- O6: bits outside `SHARED_MASK` stay as they are, and a dark phase goes to the poll. -/
theorem test_drvOff_unshared :
    after (exec .drvOff { litThree with dirShadow := 0x00#8, selLit := false }) (fun t => (t.dir, t.ctrlState)) =
      some (0x17#8, sSchPoll) := by decide
/-- L5. -/
theorem test_drvLvl_five :
    after (exec .drvLvl { levelThree with selPhase := 5#3 }) (fun t => (t.lat, t.ctrlState)) =
      some (0x10#8, sDrvEn) := by decide
/-- E4 and E5: one direction vector, and the latch tells the phases apart. -/
theorem test_drvEn_pins :
    after (exec .drvEn { enableThree with selPhase := 4#3, lat := 0x04#8 })
        (fun t => (t.dir, (List.finRange 4).map t.pin)) = some (0xEB#8, [.z, .z, .level true, .level false]) ∧
      after (exec .drvEn { enableThree with selPhase := 5#3, lat := 0x10#8 })
        (fun t => (t.dir, (List.finRange 4).map t.pin)) = some (0xEB#8, [.z, .z, .level false, .level true]) := by decide
/-- T3. -/
theorem test_setPoll_last :
    after (exec .setPoll { fresh with lastMsb := true, tmr := 0x7F }) (fun t => (t.settleCnt, t.lastMsb, t.ctrlState)) =
      some (0#8, false, sDrvSel) := by decide
/-- T6. -/
theorem test_setPoll_zero :
    faultOf (exec .setPoll { fresh with settleCnt := 0#8 }) =
      some (.settleCounterZero { fresh with settleCnt := 0#8 }) := by decide
/-- P3v. -/
theorem test_schPoll_last :
    after (exec .schPoll { litThree with toggleCnt := 1#8, lastMsb := false, tmr := 0x80 })
      (fun t => (t.toggleCnt, t.lastMsb, t.ctrlState)) = some (0#8, true, sSchStep) := by decide
/-- P6v. -/
theorem test_schPoll_zero :
    faultOf (exec .schPoll { litThree with toggleCnt := 0#8 }) =
      some (.toggleCounterZero { litThree with toggleCnt := 0#8 }) := by decide
/-- M4, with the reload. -/
theorem test_schStep_wraps :
    after (exec .schStep { litThree with ctrlState := sSchStep, mask := 0x80#8, toggleCnt := 0#8 })
      (fun t => (t.mask, t.toggleCnt, t.ctrlState)) = some (0x01#8, 64#8, sDrvSel) := by decide
/-- R211: a 16-bit timer is sampled at bit 7, and at bit 15 when the configuration says so. -/
theorem test_timer_bit :
    [0x0080, 0x8000, 0xFF7F].map (Timer.bit { width := 16 }) = [true, false, false] ∧
      [0x0080, 0x8000, 0xFF7F].map (Timer.bit { width := 16, msbBit := ⟨15, by decide⟩ }) = [false, true, true] := by decide
/-- R4: every line is dark at once. -/
theorem test_reset_dark :
    after (step { litThree with rst := true, selPhase := 4#3, dir := 0xEB#8, dirShadow := 0xEB#8 })
      (fun t => (t.dir, (List.finRange 4).map t.pin)) = some (0xFF#8, [.z, .z, .z, .z]) := by decide
/-- R3: reset comes before the reserved counter is read. -/
theorem test_reset_reserved_counter :
    after (step { beforeThree with rst := true, phaseCnt := 12#4 }) (fun t => (t.phaseCnt, t.settleCnt, t.ctrlState)) =
      some (0#4, 2#8, sSettle) := by decide
/-- P5: the reserved controller state, without reset and with it. -/
theorem test_reserved_ctrl_state :
    faultOf (step { fresh with ctrlState := 0b111#3 }) = some (.reservedCtrlState { fresh with ctrlState := 0b111#3 }) ∧
      after (step { fresh with ctrlState := 0b111#3, rst := true }) State.ctrlState = some sSettle := by decide

/-! ## Witnesses: states that meet the invariants, in every controller state -/

/-- The first operation after the settle wait. -/
def firstSelect : State := { fresh with ctrlState := sDrvSel, settleCnt := 0#8 }

/-- Inside the refresh of phase 3, before `DRV.OFF`. -/
def offThree : State := { beforeThree with ctrlState := sDrvOff, phaseCnt := 3#4, selPhase := 3#3, selLit := true }

/-- The countdown has expired in the lit phase 3. -/
def stepThree : State := { litThree with ctrlState := sSchStep, toggleCnt := 0#8 }

/-- `fresh` on a board whose countdown is one toggle long. -/
def fastFresh : State := { fresh with board := fastBoard, toggleCnt := 1#8 }

theorem witness_inv_setPoll : Inv fresh ∧ fresh.ctrlState = sSettle := ⟨by constructor <;> decide, rfl⟩
theorem witness_inv_setPoll_fast : Inv fastFresh ∧ fastFresh.ctrlState = sSettle := ⟨by constructor <;> decide, rfl⟩
theorem witness_inv_drvSel_first : Inv firstSelect ∧ firstSelect.ctrlState = sDrvSel := ⟨by constructor <;> decide, rfl⟩
theorem witness_inv_drvSel : Inv beforeThree ∧ beforeThree.ctrlState = sDrvSel := ⟨by constructor <;> decide, rfl⟩
theorem witness_inv_drvOff : Inv offThree ∧ offThree.ctrlState = sDrvOff := ⟨by constructor <;> decide, rfl⟩
theorem witness_inv_drvLvl : Inv levelThree ∧ levelThree.ctrlState = sDrvLvl := ⟨by constructor <;> decide, rfl⟩
theorem witness_inv_drvEn : Inv enableThree ∧ enableThree.ctrlState = sDrvEn := ⟨by constructor <;> decide, rfl⟩
theorem witness_inv_schPoll : Inv litThree ∧ litThree.ctrlState = sSchPoll := ⟨by constructor <;> decide, rfl⟩
theorem witness_inv_schStep : Inv stepThree ∧ stepThree.ctrlState = sSchStep := ⟨by constructor <;> decide, rfl⟩

/-! ## Witnesses: the hypotheses of the one-step statements -/

theorem exists_of_endsIn {r : Result} {f : State → Bool} (h : endsIn r f = true) : ∃ t, r = .next t ∧ f t = true := by
  cases r with
  | next t => exact ⟨t, rfl, h⟩
  | fault f => cases h
  | refused r => cases h

/-- A run that `decide` can follow ends in a next state with what it is asked of it. -/
theorem runs_to {is : List Input} {s : State} {p : State → Prop} [DecidablePred p]
    (h : endsIn (runWith is s) (fun t => decide (p t)) = true) : ∃ t, runWith is s = .next t ∧ p t := by
  obtain ⟨t, ht, hp⟩ := exists_of_endsIn h
  exact ⟨t, ht, of_decide_eq_true hp⟩

/-- The invariant in every controller state: the hypothesis of the statements about one step from such a state. -/
theorem witness_StepKeepsInvariant :
    Inv fresh ∧ Inv beforeThree ∧ Inv offThree ∧ Inv levelThree ∧ Inv enableThree ∧ Inv litThree ∧ Inv stepThree :=
  ⟨witness_inv_setPoll.1, witness_inv_drvSel.1, witness_inv_drvOff.1, witness_inv_drvLvl.1, witness_inv_drvEn.1,
    witness_inv_schPoll.1, witness_inv_schStep.1⟩
theorem witness_DrvOffLeavesEveryLineDark : Inv offThree := witness_inv_drvOff.1
theorem witness_FaultsExactlyInReservedStates : Inv fresh := witness_inv_setPoll.1
theorem witness_OperationWordsDecode :
    decode fresh.opw = .ok .setPoll ∧ decode ({ fresh with rst := true } : State).opw = .ok .reset ∧
      (0b1000#4).getLsbD 3 = true ∧ (0b1111#4).getLsbD 3 = true := by decide
theorem witness_ResetOverridesTheOperation :
    ({ litThree with rst := true } : State).rst = true ∧ ({ litThree with rst := true } : State).ctrlState = sSchPoll := by
  decide
theorem witness_ReservedCtrlStateFaults :
    ({ fresh with ctrlState := 0b111#3 } : State).ctrlState = 0b111#3 ∧
      ({ fresh with ctrlState := 0b111#3 } : State).rst = false ∧
      ({ fresh with ctrlState := 0b111#3, rst := true } : State).rst = true := by decide
theorem witness_StepRunsTheDecodedOperation :
    decode fresh.opw = .ok .setPoll ∧ (∃ t, exec .setPoll fresh = .next t) ∧
      decode ({ fresh with settleCnt := 0#8 } : State).opw = .ok .setPoll ∧
      ∃ f, exec .setPoll { fresh with settleCnt := 0#8 } = .fault f :=
  ⟨by decide, ⟨_, rfl⟩, by decide, ⟨_, rfl⟩⟩
/-- A next state from every controller state, with both outcomes where the successor depends on the state. -/
theorem witness_SuccessorTable :
    ∀ s ∈ [fresh, { fresh with tmr := 0x80 }, { fresh with rst := true }, beforeThree, offThree,
        { offThree with selLit := false }, levelThree, enableThree, litThree,
        { litThree with toggleCnt := 1#8 }, stepThree], ∃ t, step s = .next t := by
  intro s hs
  have := exists_of_endsIn (r := step s) (f := fun _ => true)
  simp only [List.mem_cons, List.not_mem_nil, or_false] at hs
  rcases hs with rfl | rfl | rfl | rfl | rfl | rfl | rfl | rfl | rfl | rfl | rfl <;>
    exact (this (by decide)).imp fun _ h => h.1
/-- The counters at the bounds of the three clauses, no value in two of them. -/
theorem witness_DrvSelResult :
    (9#4 ≤ 9#4 ∧ 9#4 ≤ 15#4) ∧ (0#4 ≤ 1#4 ∧ 1#4 ≤ 1#4) ∧
      (∃ p : Fin 8, 1 ≤ p.val ∧ 2#4 = BitVec.ofNat 4 (p.val + 1)) ∧
      (∃ p : Fin 8, 1 ≤ p.val ∧ 8#4 = BitVec.ofNat 4 (p.val + 1)) ∧
      ∀ (c : BitVec 4) (p : Fin 8), 1 ≤ p.val → c = BitVec.ofNat 4 (p.val + 1) → ¬ c ≤ 1#4 ∧ ¬ 9#4 ≤ c := by decide
theorem witness_SetPollResult :
    ({ fresh with settleCnt := 0#8 } : State).settleCnt = 0#8 ∧
      (fresh.settleCnt ≠ 0#8 ∧ ({ fresh with tmr := 0x80 } : State).tmr.testBit fresh.board.config.timer.msbBit ≠ fresh.lastMsb) ∧
      (({ fresh with settleCnt := 255#8 } : State).settleCnt ≠ 0#8 ∧ fresh.tmr.testBit fresh.board.config.timer.msbBit = fresh.lastMsb) := by decide
theorem witness_SchPollResult :
    ({ litThree with toggleCnt := 0#8 } : State).toggleCnt = 0#8 ∧
      (({ litThree with toggleCnt := 1#8 } : State).toggleCnt ≠ 0#8 ∧ litThree.tmr.testBit fresh.board.config.timer.msbBit ≠ litThree.lastMsb) ∧
      (({ litThree with toggleCnt := 255#8, tmr := 0xFF } : State).toggleCnt ≠ 0#8 ∧
        ({ litThree with tmr := 0xFF } : State).tmr.testBit fresh.board.config.timer.msbBit = litThree.lastMsb) := by decide
theorem witness_MaskStepFormula : Config.ex.maskStepKind = .rotate ∧ exFill.maskStepKind = .shiftFill := by decide
/-- A mask of each clause, and one where the kinds differ. -/
theorem witness_MaskKindsAgreeWhereReachable :
    Config.ex.maskStepKind = .rotate ∧ exFill.maskStepKind = .shiftFill ∧
      ((0x81#8).getLsbD 7 = true ∧ 0x81#8 &&& 0x7F#8 ≠ 0#8) ∧
      ¬ ((0x80#8).getLsbD 7 = true ∧ 0x80#8 &&& 0x7F#8 ≠ 0#8) ∧ ¬ ((0x7F#8).getLsbD 7 = true ∧ 0x7F#8 &&& 0x7F#8 ≠ 0#8) ∧
      (∃ i : Fin 7, 0x01#8 = 1#8 <<< i.val) ∧ ∃ i : Fin 7, 0x40#8 = 1#8 <<< i.val := by decide
/-- Every operation but `RESET` answers a next state somewhere. -/
theorem witness_EachRegisterHasOneWriter :
    (∃ t, exec .setPoll fresh = .next t) ∧ (∃ t, exec .drvSel beforeThree = .next t) ∧
      (∃ t, exec .drvOff offThree = .next t) ∧ (∃ t, exec .drvLvl levelThree = .next t) ∧
      (∃ t, exec .drvEn enableThree = .next t) ∧ (∃ t, exec .schPoll litThree = .next t) ∧
      ∃ t, exec .schStep stepThree = .next t :=
  ⟨⟨_, rfl⟩, ⟨_, rfl⟩, ⟨_, rfl⟩, ⟨_, rfl⟩, ⟨_, rfl⟩, ⟨_, rfl⟩, ⟨_, rfl⟩⟩
/-- Line 3 of the port is no shared line of EX: it is an input before `DRV.OFF`, `DRV.EN` and `RESET`. -/
theorem witness_UnsharedLinesStayInputs :
    (∃ t, exec .drvOff litThree = .next t) ∧ (∃ t, exec .drvEn enableThree = .next t) ∧
      (∃ t, exec .reset litThree = .next t) ∧ litThree.board.config.sharedMask.getLsbD 3 = false ∧
      litThree.dirShadow.getLsbD 3 = true ∧ litThree.dir.getLsbD 3 = true ∧
      enableThree.dirShadow.getLsbD 3 = true ∧ enableThree.dir.getLsbD 3 = true :=
  ⟨⟨_, rfl⟩, ⟨_, rfl⟩, ⟨_, rfl⟩, by decide, by decide, by decide, by decide, by decide⟩
theorem witness_MaskReadOncePerRefresh :
    (∃ t, exec .setPoll fresh = .next t) ∧ (∃ t, exec .drvOff offThree = .next t) ∧
      (∃ t, exec .drvLvl levelThree = .next t) ∧ (∃ t, exec .drvEn enableThree = .next t) ∧
      ∃ t, exec .schPoll litThree = .next t :=
  ⟨⟨_, rfl⟩, ⟨_, rfl⟩, ⟨_, rfl⟩, ⟨_, rfl⟩, ⟨_, rfl⟩⟩
/-- Both cases of the port: nothing driven, and a phase shown. -/
theorem witness_AtMostOneLedDriven : Inv beforeThree ∧ beforeThree.Dark ∧ Inv litThree ∧ litThree.Shows 3 :=
  ⟨witness_inv_drvSel.1, by decide, witness_inv_schPoll.1, by decide⟩
/-- The selection after a lit refresh of phase 3, before its all-input write: two outputs still. -/
def offAfterLit : State :=
  { litThree with ctrlState := sDrvOff, phaseCnt := 2#4, selPhase := 2#3, selLit := false }

/-- No output, two in each controller state that may have them, and a step of each kind that leaves two. -/
theorem witness_OutputCountZeroOrTwo :
    (Inv beforeThree ∧ beforeThree.outputCount = 0) ∧ (Inv litThree ∧ litThree.outputCount = 2) ∧
      (Inv stepThree ∧ stepThree.outputCount = 2) ∧ (Inv offAfterLit ∧ offAfterLit.outputCount = 2) ∧
      (∃ t, step enableThree = .next t ∧ t.outputCount = 2) ∧ ∃ t, step litThree = .next t ∧ t.outputCount = 2 :=
  ⟨⟨witness_inv_drvSel.1, by decide⟩, ⟨witness_inv_schPoll.1, by decide⟩, ⟨witness_inv_schStep.1, by decide⟩,
    ⟨by constructor <;> decide, by decide⟩, ⟨_, rfl, by decide⟩, ⟨_, rfl, by decide⟩⟩
/-- The default timer and a 16-bit one, at the last count before a toggle and at the wrap of the counter. -/
theorem witness_TimerBitOfAnyWidth :
    (127 < 2 ^ ({} : Timer).width ∧ ({} : Timer).msbBit.val = 7) ∧
      (0xFFFF < 2 ^ ({ width := 16 } : Timer).width ∧ ({ width := 16 } : Timer).msbBit.val = 7) := by decide
/-- Both clauses: line 1 becomes an output, and the state is before `DRV.EN`. -/
theorem witness_DrvEnShowsThePhase :
    (∃ t, exec .drvEn enableThree = .next t ∧ enableThree.pin 1 = .z ∧ t.pin 1 ≠ .z) ∧ Inv enableThree ∧
      enableThree.ctrlState = sDrvEn :=
  ⟨⟨_, rfl, by decide, by decide⟩, witness_inv_drvEn⟩

/-- The history of a reset and one lit refresh up to its level write, in its order. -/
theorem witness_ordered_enableThree : OrderedHistory enableThree.board.config enableThree.history := by
  constructor <;> intro pre v post h <;>
    rcases pre with _ | ⟨a, _ | ⟨b, _ | ⟨c, _ | ⟨d, pre⟩⟩⟩⟩ <;> simp [enableThree, levelThree, litThree] at h
  · exact ⟨[.latWrite 0x04#8], by rw [← h.2.2, h.2.1]⟩
  · exact ⟨[.reset], by rw [← h.1, ← h.2.1, ← h.2.2.1]; rfl⟩
  · exact ⟨3, [.reset], by rw [← h.2.2.2.1]; decide, by rw [← h.1, ← h.2.1, ← h.2.2.1]; rfl⟩
  · exact .inl h.2.2.1.symm

theorem witness_history_enableThree : HistoryInv enableThree where
  ordered := witness_ordered_enableThree
  beforeLevel h := absurd h (by decide)
  beforeEnable _ := ⟨[.reset], by decide⟩

/-- The hypotheses of the order statement, before the write of the enabled pair. -/
theorem witness_StepKeepsHistoryOrdered :
    Inv enableThree ∧ HistoryInv enableThree ∧ ∃ t, step enableThree = .next t :=
  ⟨witness_inv_drvEn.1, witness_history_enableThree, ⟨_, rfl⟩⟩

/-- Two states that differ in the draw of the latch alone, in the settle wait and before `DRV.LVL`. -/
theorem witness_LatchDrawUnobservable :
    (Inv fresh ∧ LatchAlike fresh { fresh with lat := 0xA5#8 }) ∧
      (Inv levelThree ∧ LatchAlike levelThree { levelThree with lat := 0xA5#8 }) ∧ ∃ t, exec .reset litThree = .next t :=
  ⟨⟨witness_inv_setPoll.1, rfl, .inr (by decide)⟩, ⟨witness_inv_drvLvl.1, rfl, .inr (by decide)⟩, ⟨_, rfl⟩⟩

/-! ## Witnesses: the hypotheses of the statements about runs -/

/-- One toggle that ends the settle wait of `fresh`, then eight dark iterations and the `DRV.SEL` of the ninth. -/
def nineSelections : List Input := high :: List.replicate 25 low

/-- From `beforeThree`: eight iterations, the first of them lit. -/
def eightRefreshes : List Input := List.replicate 26 low

theorem quiet_replicate (n : Nat) : Quiet (List.replicate n low) := by
  intro i hi
  rw [List.eq_of_mem_replicate hi]; rfl

theorem witness_MaskNeverDarkAfterStep :
    (∃ t, exec .schStep stepThree = .next t) ∧ Quiet [low, low] ∧ beforeThree.mask ≠ 0#8 ∧
      ∃ t, runWith [low, low] beforeThree = .next t :=
  ⟨⟨_, rfl⟩, by decide, by decide, _, rfl⟩
/-- A history with a lit refresh in it, run from `beforeThree`, and one from power-up. -/
theorem witness_EveryHistoryOrdered :
    (∃ t, runWith [high, high, low] (State.powerUp {}) = .next t) ∧
      ∃ t, runWith [low, low, low, low] beforeThree = .next t ∧ .latWrite 0x04#8 ∈ t.history :=
  ⟨⟨_, rfl⟩, runs_to (by decide)⟩
theorem witness_ConfigurationNeverChanges : ∃ t, runWith [low, ⟨true, 0⟩, low] litThree = .next t := ⟨_, rfl⟩
theorem witness_PhasesServedInOrder :
    Inv fresh ∧ fresh.ctrlState = sSettle ∧ Quiet [high, low] ∧ collect .drvSel State.phase [high, low] fresh = [0] :=
  ⟨witness_inv_setPoll.1, rfl, by decide, by decide⟩
/-- Both clauses: a ninth phase, and a window of eight. -/
theorem witness_PhasesServedWithPeriodEight :
    Inv fresh ∧ fresh.ctrlState = sSettle ∧ Quiet nineSelections ∧
      (collect .drvSel State.phase nineSelections fresh)[0 + 8]? = some 0 ∧
      collect .drvSel State.phase nineSelections fresh = [] ++ [0, 7, 6, 5, 4, 3, 2, 1] ++ [0] ∧
      ([0, 7, 6, 5, 4, 3, 2, 1] : List (Fin 8)).length = 8 :=
  ⟨witness_inv_setPoll.1, rfl, by decide, by decide, by decide, rfl⟩
/-- A run with a mask step, and one before the first. -/
theorem witness_MaskWalksOneBit :
    Inv fastFresh ∧ fastFresh.ctrlState = sSettle ∧ Quiet [high, low, low, low, low] ∧
      collect .schStep State.mask [high, low, low, low, low] fastFresh = [0x01#8] ∧
      (∃ t, runWith [high] fastFresh = .next t) ∧ collect .schStep State.mask [high] fastFresh = [] :=
  ⟨witness_inv_setPoll_fast.1, rfl, by decide, by decide, ⟨_, rfl⟩, by decide⟩
/-- Both clauses: the next operation is `SCH.STEP`, and it is not. -/
theorem witness_MaskStepsEveryStepDelay :
    Inv fastFresh ∧ fastFresh.ctrlState = sSettle ∧ Quiet [high, low, low, low] ∧
      (∃ t, runWith [high, low, low, low] fastFresh = .next t ∧ t.ctrlState = sSchStep) ∧
      ∃ t, runWith [high] fastFresh = .next t ∧ t.ctrlState ≠ sSchStep :=
  ⟨witness_inv_setPoll_fast.1, rfl, by decide, runs_to (by decide), runs_to (by decide)⟩
/-- Both clauses: fewer toggles than the count, at 0 and at one less, and the sample that shows the last. -/
theorem witness_SettleWaitCountsToggles :
    Inv { fresh with settleCnt := 2#8 } ∧ Quiet [high, low] ∧ togglesIn false ([].map (Input.bit Config.ex)) < (2#8).toNat ∧
      togglesIn false ([high].map (Input.bit Config.ex)) < (2#8).toNat ∧ [high, low] = [high] ++ [low] ∧
      togglesIn false ([high, low].map (Input.bit Config.ex)) = (2#8).toNat :=
  ⟨by constructor <;> decide, by decide, by decide, by decide, rfl, by decide⟩
theorem witness_NoPortWriteBeforeFirstRefresh :
    Inv fresh ∧ fresh.ctrlState = sSettle ∧ Quiet [low, low] ∧ (∃ t, runWith [low, low] fresh = .next t) ∧
      .drvSel ∉ opsOf [low, low] fresh :=
  ⟨witness_inv_setPoll.1, rfl, by decide, ⟨_, rfl⟩, by decide⟩
/-- A timer bit that alternates is fair. -/
theorem witness_SettleWaitEndsWhenFair :
    Inv fresh ∧ fresh.ctrlState = sSettle ∧ (∀ n : Nat, (if n % 2 = 0 then low else high).rst = false) ∧
      Fair fun n => (if n % 2 = 0 then low else high).bit Config.ex := by
  refine ⟨witness_inv_setPoll.1, rfl, fun n => by split <;> rfl, fun n => ⟨n, Nat.le_refl n, ?_⟩⟩
  rcases Nat.mod_two_eq_zero_or_one n with h | h <;> simp [Nat.add_mod, h, low, high, Input.bit] <;> decide
/-- A lit iteration, a dark one, and a dark one whose poll expires the countdown. -/
theorem witness_IterationStructure :
    (Inv beforeThree ∧ beforeThree.ctrlState = sDrvSel ∧ Quiet [low, low, low, low] ∧ low.rst = false ∧
      [low, low, low, low].length = (refreshOps (beforeThree.maskBitOf (servedPhase beforeThree.phaseCnt))).length) ∧
    (Inv firstSelect ∧ firstSelect.ctrlState = sDrvSel ∧ Quiet [low, low] ∧
      [low, low].length = (refreshOps (firstSelect.maskBitOf (servedPhase firstSelect.phaseCnt))).length) ∧
    (Inv { firstSelect with toggleCnt := 1#8 } ∧ high.bit Config.ex ≠ firstSelect.lastMsb) :=
  ⟨⟨witness_inv_drvSel.1, rfl, by decide, rfl, by decide⟩, ⟨witness_inv_drvSel_first.1, rfl, by decide, by decide⟩,
    by constructor <;> decide, by decide⟩
theorem witness_DarkRefresh :
    Inv firstSelect ∧ firstSelect.ctrlState = sDrvSel ∧ low.rst = false ∧ high.rst = false ∧
      firstSelect.maskBitOf (servedPhase firstSelect.phaseCnt) = false :=
  ⟨witness_inv_drvSel_first.1, rfl, rfl, rfl, by decide⟩
/-- Eight refreshes that light phase 3 once, and the steps of the ninth beside those of the first. -/
theorem witness_ByteIdenticalPeriod :
    Inv beforeThree ∧ beforeThree.ctrlState = sDrvSel ∧ Quiet eightRefreshes ∧
      (∃ t, runWith eightRefreshes beforeThree = .next t ∧ t.ctrlState = sDrvSel) ∧
      (collect .drvSel State.phase eightRefreshes beforeThree).length = 8 ∧
      .schStep ∉ opsOf eightRefreshes beforeThree ∧
      (∃ u, runWith (List.replicate 4 low) beforeThree = .next u ∧ u.dir = 0xF9#8) ∧
      ∃ v, runWith (eightRefreshes ++ List.replicate 4 low) beforeThree = .next v ∧ v.dir = 0xF9#8 :=
  ⟨witness_inv_drvSel.1, rfl, quiet_replicate 26, runs_to (by decide), by decide, by decide, runs_to (by decide),
    runs_to (by decide)⟩
/-- The same from the first refresh after a reset. -/
theorem witness_ByteIdenticalPeriod_first :
    Inv firstSelect ∧ firstSelect.ctrlState = sDrvSel ∧ Quiet (List.replicate 24 low) ∧
      (∃ t, runWith (List.replicate 24 low) firstSelect = .next t ∧ t.ctrlState = sDrvSel) ∧
      (collect .drvSel State.phase (List.replicate 24 low) firstSelect).length = 8 ∧
      .schStep ∉ opsOf (List.replicate 24 low) firstSelect :=
  ⟨witness_inv_drvSel_first.1, rfl, quiet_replicate 24, runs_to (by decide), by decide, by decide⟩
theorem witness_EachDesiredPhaseLitOnce :
    Inv beforeThree ∧ Quiet eightRefreshes ∧ .schStep ∉ opsOf eightRefreshes beforeThree ∧
      (collect .drvSel State.phase eightRefreshes beforeThree).length = 8 :=
  ⟨witness_inv_drvSel.1, quiet_replicate 26, by decide, by decide⟩
theorem witness_RefreshWithinSixSteps :
    Inv offThree ∧ offThree.ctrlState ≠ sSettle ∧ Quiet (List.replicate 6 low) ∧ (List.replicate 6 low).length = 6 :=
  ⟨witness_inv_drvOff.1, by decide, quiet_replicate 6, rfl⟩

end Sys2Proof.Tests
end

section
/-!
PROOFS. spec/20_memory.md R81: each register has one writer component.

First the frame of the registers: which operations besides `RESET` can change a register, read off `Effect`. In each of these
lemmas the register's writers are the cases its hypotheses exclude.
-/

namespace Sys2Proof.Machine

section
variable {i : Instr} {s t : State} (h : Effect i s t) (hreset : i ≠ .reset)
include h hreset

/-- Of the operations other than `RESET`, `SCH.STEP` alone writes `MASK`. -/
theorem Effect.mask_eq (hstep : i ≠ .schStep) : t.mask = s.mask := by
  cases h with
  | maskStep => exact absurd rfl hstep
  | reset => exact absurd rfl hreset
  | _ => simp

/-- Of the operations other than `RESET`, the scheduler's two alone write `TOGGLE_CNT`. -/
theorem Effect.toggleCnt_eq (hstep : i ≠ .schStep) (hpoll : i ≠ .schPoll) : t.toggleCnt = s.toggleCnt := by
  cases h with
  | maskStep => exact absurd rfl hstep
  | pollToggle => exact absurd rfl hpoll
  | reset => exact absurd rfl hreset
  | _ => simp

/-- Of the operations other than `RESET`, the settle wait alone writes `SETTLE_CNT`. -/
theorem Effect.settleCnt_eq (hsettle : i ≠ .setPoll) : t.settleCnt = s.settleCnt := by
  cases h with
  | settleToggle => exact absurd rfl hsettle
  | reset => exact absurd rfl hreset
  | _ => simp

/-- Of the operations other than `RESET`, the two polls alone write `LAST_MSB`. -/
theorem Effect.lastMsb_eq (hsettle : i ≠ .setPoll) (hpoll : i ≠ .schPoll) : t.lastMsb = s.lastMsb := by
  cases h with
  | settleToggle => exact absurd rfl hsettle
  | pollToggle => exact absurd rfl hpoll
  | reset => exact absurd rfl hreset
  | _ => simp

/-- Of the operations other than `RESET`, `DRV.SEL` alone writes the phase registers. -/
theorem Effect.selection_eq (hsel : i ≠ .drvSel) :
    t.phaseCnt = s.phaseCnt ∧ t.selPhase = s.selPhase ∧ t.selLit = s.selLit := by
  cases h with
  | select => exact absurd rfl hsel
  | reset => exact absurd rfl hreset
  | _ => simp

/-- Of the operations other than `RESET`, `DRV.OFF` and `DRV.EN` alone write the direction registers. -/
theorem Effect.direction_eq (hoff : i ≠ .drvOff) (hen : i ≠ .drvEn) :
    t.dirShadow = s.dirShadow ∧ t.dir = s.dir := by
  cases h with
  | off => exact absurd rfl hoff
  | enable => exact absurd rfl hen
  | reset => exact absurd rfl hreset
  | _ => simp

/-- Of the operations other than `RESET`, `DRV.LVL` alone writes `LAT`. -/
theorem Effect.lat_eq (hlvl : i ≠ .drvLvl) : t.lat = s.lat := by
  cases h with
  | level => exact absurd rfl hlvl
  | reset => exact absurd rfl hreset
  | _ => simp

end

/-- Settles O24: the frame lemmas of the registers, for the effect the operation had. -/
theorem eachRegisterHasOneWriter : Obligations.EachRegisterHasOneWriter := by
  intro i s t hexec hreset
  have h : Effect i s t := exec_effect hexec
  exact ⟨h.mask_eq hreset, h.toggleCnt_eq hreset, h.settleCnt_eq hreset, h.lastMsb_eq hreset,
    h.selection_eq hreset, h.direction_eq hreset, h.lat_eq hreset⟩

end Sys2Proof.Machine
end

section
/-!
PROOFS. The derived port vectors bit by bit (spec/30_encoding.md R92).
-/

namespace Sys2Proof

/-- The two lines of a phase have different port bits in a built block: WF1 and the distinct lines of R14. -/
theorem Board.portBit_high_ne_low (b : Board) (p : Fin 8) :
    b.config.portBit (b.config.entry p).high ≠ b.config.portBit (b.config.entry p).low :=
  fun h => b.high_ne_low p (b.portBit_injective _ _ h)

/-- The enable vector is the complement of the pair. -/
theorem Config.enVec_getLsbD_eq_not_pair (c : Config) (p : Fin 8) {j : Nat} (hj : j < 8) :
    (c.enVec p).getLsbD j = !(c.pair p).getLsbD j := by
  rw [c.enVec_getLsbD p j hj, c.pair_getLsbD]

/-- Settles O11: each vector's bits are given by its own law, and the pair's two bits differ on a built board. -/
theorem phaseVectorsNameTwoLines : Obligations.PhaseVectorsNameTwoLines := by
  refine ⟨rfl, fun c j => ⟨fun k => ?line, ?shared⟩,
    fun b p => ⟨b.portBit_high_ne_low p, fun j => ⟨?pair, ?enable, ?level⟩⟩⟩
  case line => rw [c.lineMask_getLsbD, decide_eq_true_iff, Config.portBit]
  case shared => rw [c.sharedMask_getLsbD, decide_eq_true_iff]; rfl
  case pair => rw [b.config.pair_getLsbD, Bool.or_eq_true, decide_eq_true_iff, decide_eq_true_iff]
  case enable => rw [b.config.enVec_getLsbD_eq_not_pair p j.isLt, Bool.not_eq_false']
  case level => rw [b.config.lvlVec_getLsbD, decide_eq_true_iff]

end Sys2Proof
end

section
/-!
PROOFS. The packed table entry (spec/30_encoding.md R94): each field is read back from its bits, so packing and unpacking undo
each other.
-/

namespace Sys2Proof

/-- `maskBit` stands at [6:4]. -/
@[simp] theorem extractLsb'_packEntry_maskBit (e : PhaseEntry) :
    (packEntry e).extractLsb' 4 3 = BitVec.ofFin (w := 3) e.maskBit := by
  rw [packEntry, BitVec.extractLsb'_append_eq_of_le (by decide)]
  exact BitVec.extractLsb'_append_eq_left

/-- `high` stands at [3:2]. -/
@[simp] theorem extractLsb'_packEntry_high (e : PhaseEntry) :
    (packEntry e).extractLsb' 2 2 = BitVec.ofFin (w := 2) e.high := by
  rw [packEntry, BitVec.extractLsb'_append_eq_of_le (by decide)]
  exact BitVec.extractLsb'_append_eq_right

/-- `low` stands at [1:0]. -/
@[simp] theorem extractLsb'_packEntry_low (e : PhaseEntry) :
    (packEntry e).extractLsb' 0 2 = BitVec.ofFin (w := 2) e.low :=
  BitVec.extractLsb'_append_eq_right

theorem unpackEntry_packEntry (e : PhaseEntry) : unpackEntry (packEntry e) = e := by
  simp [unpackEntry]

/-- The three fields are adjacent and together cover the word. -/
theorem packEntry_unpackEntry (w : BitVec 7) : packEntry (unpackEntry w) = w :=
  calc packEntry (unpackEntry w)
    _ = w.extractLsb' 4 3 ++ w.extractLsb' 2 2 ++ w.extractLsb' 0 2 := rfl
    _ = w.extractLsb' 2 5 ++ w.extractLsb' 0 2 := by
      rw [BitVec.extractLsb'_append_extractLsb'_eq_extractLsb' (show 4 = 2 + 2 from rfl)]
    _ = w := BitVec.extractLsb'_append_extractLsb' (w := 5) (len := 2)

/-- Settles O10: the three field lemmas and the two round trips. -/
theorem packedEntryHoldsEveryField : Obligations.PackedEntryHoldsEveryField :=
  ⟨fun e => ⟨congrArg BitVec.toNat (extractLsb'_packEntry_maskBit e),
    congrArg BitVec.toNat (extractLsb'_packEntry_high e), congrArg BitVec.toNat (extractLsb'_packEntry_low e),
    unpackEntry_packEntry e⟩, packEntry_unpackEntry⟩

end Sys2Proof
end

section
/-!
PROOFS. The operation word and what it decodes to (spec/30_encoding.md R95, R96, R99).
-/

namespace Sys2Proof

/-- The encoding family, for the operation as a variable. -/
theorem encoding_statement (i : Instr) : Laws.Encoding.Statement i := by
  cases i with
  | setPoll => exact Laws.Encoding.setPoll
  | drvSel => exact Laws.Encoding.drvSel
  | drvOff => exact Laws.Encoding.drvOff
  | drvLvl => exact Laws.Encoding.drvLvl
  | drvEn => exact Laws.Encoding.drvEn
  | schPoll => exact Laws.Encoding.schPoll
  | schStep => exact Laws.Encoding.schStep
  | reset => exact Laws.Encoding.reset

/-- The encoder's word is one of its row's words, so the decoder reads it as the row's operation. -/
theorem decode_encode (i : Instr) : decode (encode i) = .ok i := by
  obtain ⟨-, hrow, -, hdecode⟩ := encoding_statement i
  exact (hdecode (encode i)).1 hrow

/-- Reset is decoded first, whatever the other bits hold (R96). -/
theorem decode_of_opwRst {w : Opw} (h : opwRst w = true) : decode w = .ok .reset := if_pos h

/-- The reserved word names no operation (R99). -/
theorem decode_reserved : decode 0b0111#4 = .error .reservedCtrlState := rfl

end Sys2Proof

namespace Sys2Proof.Machine

/-- A step whose word names an operation performs it. -/
theorem step_of_decode {s : State} {i : Instr} (h : decode s.opw = .ok i) : step s = finishStep (exec i s) := by
  rw [step, h]

/-- Settles O7: the words with bit 3 set are `RESET`'s, and each of the others is the encoder's word of its operation or the
reserved one. -/
theorem operationWordsDecode : Obligations.OperationWordsDecode :=
  ⟨fun _ => rfl, fun _ _ => step_of_decode, fun _ => decode_of_opwRst,
    decode_encode .setPoll, decode_encode .drvSel, decode_encode .drvOff, decode_encode .drvLvl,
    decode_encode .drvEn, decode_encode .schPoll, decode_encode .schStep, decode_reserved⟩

end Sys2Proof.Machine
end

section
/-!
PROOFS. The result of each driver operation (spec/40_driver.md R120, R124, R127, R130): the next state as an update of the state
before it.
-/

namespace Sys2Proof

/-- Phase 0 is served when the decrement reaches 0 or less (R120). -/
theorem servedPhase_of_le_one {c : BitVec 4} (h : c ≤ 1#4) : servedPhase c = 0#3 := if_pos h

/-- After phase 0 the counter is at its ceiling (R120). -/
theorem nextPhaseCnt_of_le_one {c : BitVec 4} (h : c ≤ 1#4) : nextPhaseCnt c = 8#4 := if_pos h

/-- With p + 1 in the counter, p in 1..7, the decrement reaches p: that phase is served, and the counter keeps it (R120). -/
theorem servedPhase_nextPhaseCnt_succ : ∀ p : Fin 8, 1 ≤ p.val →
    servedPhase (BitVec.ofNat 4 (p.val + 1)) = BitVec.ofNat 3 p.val ∧
      nextPhaseCnt (BitVec.ofNat 4 (p.val + 1)) = BitVec.ofNat 4 p.val ∧
      BitVec.ofNat 4 (p.val + 1) ≤ 8#4 := by decide

end Sys2Proof

namespace Sys2Proof.Machine

/-- A direction change as one update: both registers, and the two writes in order (R39). -/
theorem State.setDirection_eq (s : State) (v : Byte) :
    s.setDirection v = { s with
      dirShadow := v
      dir := v
      history := s.history ++ [.shadowWrite v, .dirWrite v] } := by
  simp [State.setDirection, State.writeShadow, State.writeDir, State.record]

/-- `DRV.SEL` completes on every counter that is not reserved. -/
theorem exec_drvSel {s : State} (h : s.phaseCnt ≤ 8#4) :
    exec .drvSel s = .next { s with
      phaseCnt := nextPhaseCnt s.phaseCnt
      selPhase := servedPhase s.phaseCnt
      selLit := s.maskBitOf (servedPhase s.phaseCnt)
      ctrlState := sDrvOff } :=
  exec_of_effect (.select s h)

/-- A reserved counter faults. -/
theorem exec_drvSel_reserved {s : State} (h : 9#4 ≤ s.phaseCnt) :
    exec .drvSel s = .fault (.phaseCounterReserved s) := if_pos h

/-- Settles O14: the two forms of the served phase and of the counter left, in the one result of `DRV.SEL`. -/
theorem drvSelResult : Obligations.DrvSelResult := by
  refine ⟨fun s => exec_drvSel_reserved, fun s hle => ?first, fun s p hp hcnt => ?later⟩
  case first =>
    rw [exec_drvSel (BitVec.le_trans hle (by decide)), servedPhase_of_le_one hle, nextPhaseCnt_of_le_one hle]
    rfl
  case later =>
    obtain ⟨hserved, hnext, hlegal⟩ := servedPhase_nextPhaseCnt_succ p hp
    have hindex : (BitVec.ofNat 3 p.val).toFin = p := Fin.ofNat_val_eq_self p
    rw [exec_drvSel (hcnt ▸ hlegal), hcnt, hserved, hnext, State.maskBitOf, hindex]
    rfl

/-- Settles O15: the direction change of `DRV.OFF` and its successor. -/
theorem drvOffResult : Obligations.DrvOffResult := by
  intro s
  rw [exec_of_effect (.off s), State.setDirection_eq]
  rfl

/-- Settles O16: the latch write of `DRV.LVL` and its successor. -/
theorem drvLvlResult : Obligations.DrvLvlResult := fun s => exec_of_effect (.level s)

/-- Settles O17: the direction change of `DRV.EN` and its successor. -/
theorem drvEnResult : Obligations.DrvEnResult := by
  intro s
  rw [exec_of_effect (.enable s), State.setDirection_eq]
  rfl

end Sys2Proof.Machine
end

section
/-!
PROOFS. The invariant of the states (spec/10_state.md R36 to R49): each operation keeps it, and in a state that meets it every step
completes. One lemma for each operation names the clauses the operation touches; the others carry over as they stand.
-/

namespace Sys2Proof

/-- Counting a counter down from what is not 0 keeps its bound. -/
theorem byte_sub_one_le {x b : Byte} (h0 : x ≠ 0#8) (h : x ≤ b) : x - 1#8 ≤ b := by bv_omega

/-- The step of a dark mask, or of a mask of one bit, is a mask of one bit (R160). -/
theorem Config.maskStep_reached (c : Config) {m : Byte} (h : m = 0#8 ∨ ∃ i : Fin 8, m = 1#8 <<< i.val) :
    ∃ i : Fin 8, c.maskStep m = 1#8 <<< i.val := by
  unfold Config.maskStep Config.maskShift
  obtain rfl | ⟨i, rfl⟩ := h
  · cases c.maskStepKind <;> exact ⟨0, rfl⟩
  · cases c.maskStepKind <;> revert i <;> decide

end Sys2Proof

namespace Sys2Proof.Machine

/-- The controller state of a step that is no reset is the one whose word names its operation. -/
theorem ctrlState_of_decode {s : State} {i : Instr} (h : decode s.opw = .ok i) (hreset : i ≠ .reset) :
    s.ctrlState = opwCtrl (encode i) := by
  have table : ∀ (r : Bool) (c : CtrlCode), decode (opwOf r c) = .ok i → c = opwCtrl (encode i) := by
    cases i with
    | reset => exact absurd rfl hreset
    | _ => decide
  exact table _ _ h

/-- No operation changes the configuration (R43). -/
theorem Effect.board_eq {i : Instr} {s t : State} (h : Effect i s t) : t.board = s.board := by
  cases h <;> rfl

/-- `DRV.OFF` from a state that meets the invariant writes the all-input vector (R125). -/
theorem Inv.dirShadow_or_sharedMask {s : State} (h : Inv s) : s.dirShadow ||| s.board.config.sharedMask = offVec := by
  obtain hoff | ⟨p, hpair, -⟩ := h.portReached
  · rw [hoff, offVec_or]
  · rw [hpair, Config.enVec_or_sharedMask]

/-- `DRV.EN` from a state that meets the invariant writes the enable vector of its phase (R130). -/
theorem Inv.dirShadow_and_not_pair {s : State} (h : Inv s) (hc : s.ctrlState = sDrvEn) :
    s.dirShadow &&& ~~~(s.board.config.pair s.phase) = s.board.config.enVec s.phase := by
  rw [h.allInputs (.inr (.inr hc)), Config.enVec]

/-- Outside the settle wait the settle count is spent. -/
theorem Inv.settleCnt_eq_zero {s : State} (h : Inv s) (hc : s.ctrlState ≠ sSettle) : s.settleCnt = 0#8 :=
  Decidable.not_not.1 (mt h.settleWaits.2 hc)

/-- Outside `S_SCH_STEP` the countdown is running. -/
theorem Inv.toggleCnt_ne_zero {s : State} (h : Inv s) (hc : s.ctrlState ≠ sSchStep) : s.toggleCnt ≠ 0#8 :=
  mt h.toggleExpires.2 hc

/-- A toggle in the settle wait counts down; the last one leads to the first selection, with the driver as reset left it. -/
theorem Inv.settleToggle {s : State} (h : Inv s) (hc : s.ctrlState = sSettle) :
    Inv (((s.sampleTmr.setLastMsb s.timerBit).setSettleCnt (s.settleCnt - 1#8)).goto
      (if s.settleCnt - 1#8 = 0#8 then sDrvSel else sSettle)) := by
  obtain ⟨hmask, hcnt, hlit, htoggle⟩ := h.settleFresh hc
  have hoff := h.allInputs (.inl hc)
  have halive : s.settleCnt ≠ 0#8 := h.settleWaits.1 hc
  have hrun : s.toggleCnt ≠ 0#8 := h.toggleCnt_ne_zero (by simp [hc])
  split <;> rename_i hlast <;> exact { h with
    ctrlLegal := by simp
    phaseCntStart := by simp
    settleBound := byte_sub_one_le halive h.settleBound
    settleWaits := by simp [hlast]
    settleFresh := fun _ => ⟨hmask, hcnt, hlit, htoggle⟩
    toggleExpires := by simp [hrun]
    allInputs := fun _ => hoff
    litInside := by simp
    latchLoaded := nofun
    portShows := by simp [hlit, hoff] }

/-- A sample without a toggle leaves the settle wait where it is. -/
theorem Inv.settleStill {s : State} (h : Inv s) (hc : s.ctrlState = sSettle) : Inv (s.sampleTmr.goto sSettle) := by
  rw [← hc]
  exact { h with }

/-- `DRV.SEL` moves the counter to the next phase and selects it; the port keeps what it shows. -/
theorem Inv.select {s : State} (h : Inv s) (hc : s.ctrlState = sDrvSel) (lit : Bool) :
    Inv (((s.setPhaseCnt (nextPhaseCnt s.phaseCnt)).setSelection (servedPhase s.phaseCnt) lit).goto sDrvOff) := by
  obtain ⟨hlegal, hpos, hserved⟩ := nextPhaseCnt_spec s.phaseCnt h.phaseCntLegal
  exact { h with
    ctrlLegal := by simp
    phaseCntLegal := hlegal
    phaseCntStart := fun h0 => absurd h0 hpos
    phaseSelected := hserved
    settleWaits := by simp [h.settleCnt_eq_zero (by simp [hc])]
    settleFresh := nofun
    toggleExpires := by simp [h.toggleCnt_ne_zero (by simp [hc])]
    allInputs := by simp
    litInside := by simp
    latchLoaded := nofun
    portShows := by simp }

/-- Outside `S_SETTLE` and `S_DRV_SEL` a phase has been selected, so the counter is not 0. -/
theorem Inv.phaseCnt_ne_zero {s : State} (h : Inv s) (hsettle : s.ctrlState ≠ sSettle) (hsel : s.ctrlState ≠ sDrvSel) :
    s.phaseCnt ≠ 0#4 := fun h0 => (h.phaseCntStart h0).elim hsettle hsel

/-- `DRV.OFF` turns every line to input; a dark refresh ends with it. -/
theorem Inv.off {s : State} (h : Inv s) (hc : s.ctrlState = sDrvOff) :
    Inv ((s.setDirection offVec).goto (if s.selLit then sDrvLvl else sSchPoll)) := by
  have hcnt := h.phaseCnt_ne_zero (by simp [hc]) (by simp [hc])
  have hsettled := h.settleCnt_eq_zero (by simp [hc])
  have hrun := h.toggleCnt_ne_zero (by simp [hc])
  split <;> rename_i hlit <;> exact { h with
    ctrlLegal := by simp
    shadowMirrors := rfl
    phaseCntStart := fun h0 => absurd h0 hcnt
    settleWaits := by simp [hsettled]
    settleFresh := nofun
    toggleExpires := by simp [hrun]
    allInputs := fun _ => rfl
    litInside := by simp [hlit]
    latchLoaded := nofun
    portShows := by simp [hlit]
    portReached := .inl rfl }

/-- `DRV.LVL` loads the latch while every line is an input. -/
theorem Inv.level {s : State} (h : Inv s) (hc : s.ctrlState = sDrvLvl) :
    Inv ((s.writeLat (s.board.config.lvlVec s.phase)).goto sDrvEn) :=
  have hoff := h.allInputs (.inr (.inl hc))
  { h with
    ctrlLegal := by simp
    phaseCntStart := fun h0 => absurd h0 (h.phaseCnt_ne_zero (by simp [hc]) (by simp [hc]))
    settleWaits := by simp [h.settleCnt_eq_zero (by simp [hc])]
    settleFresh := nofun
    toggleExpires := by simp [h.toggleCnt_ne_zero (by simp [hc])]
    allInputs := fun _ => hoff
    litInside := fun _ => h.litInside (.inl hc)
    latchLoaded := fun _ => rfl
    portShows := by simp
    portReached := .inl hoff }

/-- `DRV.EN` enables the pair whose levels the latch holds. -/
theorem Inv.enable {s : State} (h : Inv s) (hc : s.ctrlState = sDrvEn) :
    Inv ((s.setDirection (s.board.config.enVec s.phase)).goto sSchPoll) :=
  have hlat := h.latchLoaded hc
  { h with
    ctrlLegal := by simp
    shadowMirrors := rfl
    phaseCntStart := fun h0 => absurd h0 (h.phaseCnt_ne_zero (by simp [hc]) (by simp [hc]))
    settleWaits := by simp [h.settleCnt_eq_zero (by simp [hc])]
    settleFresh := nofun
    toggleExpires := by simp [h.toggleCnt_ne_zero (by simp [hc])]
    allInputs := by simp
    litInside := by simp
    latchLoaded := nofun
    portShows := by simp [h.litInside (.inr hc), hlat]
    portReached := .inr ⟨s.phase, rfl, hlat⟩ }

/-- `SCH.POLL` with a toggle counts down: `S_SCH_STEP` is entered exactly when the countdown reaches 0. -/
theorem Inv.pollToggle {s : State} (h : Inv s) (hc : s.ctrlState = sSchPoll) :
    Inv (((s.sampleTmr.setLastMsb s.timerBit).setToggleCnt (s.toggleCnt - 1#8)).goto
      (if s.toggleCnt - 1#8 = 0#8 then sSchStep else sDrvSel)) := by
  have hcnt := h.phaseCnt_ne_zero (by simp [hc]) (by simp [hc])
  have hsettled := h.settleCnt_eq_zero (by simp [hc])
  have hshows := h.portShows (.inl hc)
  have hrun := h.toggleCnt_ne_zero (by simp [hc])
  split <;> rename_i hlast <;> exact { h with
    ctrlLegal := by simp
    phaseCntStart := fun h0 => absurd h0 hcnt
    settleWaits := by simp [hsettled]
    settleFresh := nofun
    toggleBound := byte_sub_one_le hrun h.toggleBound
    toggleExpires := by simp [hlast]
    allInputs := by simp
    litInside := by simp
    latchLoaded := nofun
    portShows := fun _ => hshows }

/-- `SCH.POLL` without a toggle goes on to the next selection. -/
theorem Inv.pollStill {s : State} (h : Inv s) (hc : s.ctrlState = sSchPoll) : Inv (s.sampleTmr.goto sDrvSel) :=
  have hshows := h.portShows (.inl hc)
  { h with
    ctrlLegal := by simp
    phaseCntStart := fun _ => .inr rfl
    settleWaits := by simp [h.settleCnt_eq_zero (by simp [hc])]
    settleFresh := nofun
    toggleExpires := by simp [h.toggleCnt_ne_zero (by simp [hc])]
    allInputs := by simp
    litInside := by simp
    latchLoaded := nofun
    portShows := fun _ => hshows }

/-- `SCH.STEP` steps the mask and reloads the countdown. -/
theorem Inv.maskStep {s : State} (h : Inv s) (hc : s.ctrlState = sSchStep) :
    Inv (((s.setMask (s.board.config.maskStep s.mask)).setToggleCnt s.board.config.stepDelay).goto sDrvSel) :=
  have hshows := h.portShows (.inr (.inl hc))
  { h with
    ctrlLegal := by simp
    phaseCntStart := fun _ => .inr rfl
    maskReached := .inr (Config.maskStep_reached _ h.maskReached)
    settleWaits := by simp [h.settleCnt_eq_zero (by simp [hc])]
    settleFresh := nofun
    toggleBound := BitVec.le_refl _
    toggleExpires := by simp [s.board.stepDelay_ne_zero]
    allInputs := by simp
    litInside := by simp
    latchLoaded := nofun
    portShows := fun _ => hshows }

/-- The reset values meet the invariant, whatever the state before and the latch's draw. -/
theorem inv_resetRegisters {s : State} (htmr : s.tmr < 2 ^ s.board.config.timer.width) (lat : Byte) :
    Inv ((s.resetRegisters lat).goto sSettle) where
  ctrlLegal := by simp
  shadowMirrors := rfl
  phaseCntLegal := by simp
  phaseCntStart := fun _ => .inl rfl
  phaseSelected := rfl
  maskReached := .inl rfl
  settleBound := BitVec.le_refl _
  settleWaits := by simp [s.board.config.settleToggles_ne_zero]
  settleFresh := fun _ => ⟨rfl, rfl, rfl, rfl⟩
  toggleBound := BitVec.le_refl _
  toggleExpires := by simp [s.board.stepDelay_ne_zero]
  allInputs := fun _ => rfl
  litInside := by simp
  latchLoaded := nofun
  portShows := by simp
  portReached := .inl rfl
  timerFits := htmr

/-- Power-up is a `RESET` (R231), so it meets the invariant. -/
theorem inv_powerUp (b : Board) : Inv (State.powerUp b) :=
  inv_resetRegisters (s := { State.powerUp b with history := [] }) (Timer.cut_lt _ _) (Config.freeLat 0)

/-- Every operation keeps the invariant. -/
theorem Inv.effect {i : Instr} {s t : State} (h : Inv s) (hd : decode s.opw = .ok i) (he : Effect i s t) : Inv t := by
  cases he with
  | settleToggle => exact h.settleToggle (ctrlState_of_decode hd nofun)
  | settleStill => exact h.settleStill (ctrlState_of_decode hd nofun)
  | select => exact h.select (ctrlState_of_decode hd nofun) _
  | off => rw [h.dirShadow_or_sharedMask]; exact h.off (ctrlState_of_decode hd nofun)
  | level => exact h.level (ctrlState_of_decode hd nofun)
  | enable =>
    have hc : s.ctrlState = sDrvEn := ctrlState_of_decode hd nofun
    rw [h.dirShadow_and_not_pair hc]; exact h.enable hc
  | pollToggle => exact h.pollToggle (ctrlState_of_decode hd nofun)
  | pollStill => exact h.pollStill (ctrlState_of_decode hd nofun)
  | maskStep => exact h.maskStep (ctrlState_of_decode hd nofun)
  | reset => exact inv_resetRegisters h.timerFits _

/-- Every step that completes keeps the invariant. -/
theorem Inv.step {s t : State} (h : Inv s) (hstep : step s = .next t) : Inv t := by
  obtain ⟨i, u, hd, hexec, rfl⟩ := step_eq_next hstep
  exact (h.effect hd (exec_effect hexec)).presentInputs

/-- In a state that meets the invariant the word names an operation (R200). -/
theorem Inv.exists_decode {s : State} (h : Inv s) : ∃ i, decode s.opw = .ok i := by
  have table : ∀ (r : Bool) (c : CtrlCode), c ≠ 0b111#3 → (decode (opwOf r c)).toOption.isSome := by decide
  have hsome := table s.rst s.ctrlState h.ctrlLegal
  cases hd : decode s.opw with
  | ok i => exact ⟨i, rfl⟩
  | error e => rw [← State.opw, hd] at hsome; exact absurd hsome (by simp [Except.toOption])

/-- In a state that meets the invariant the operation of the word completes (R200). -/
theorem Inv.exists_effect {s : State} {i : Instr} (h : Inv s) (hd : decode s.opw = .ok i) : ∃ t, Effect i s t := by
  cases i with
  | setPoll =>
    have halive : s.settleCnt ≠ 0#8 := h.settleWaits.1 (ctrlState_of_decode hd nofun)
    cases htog : s.toggled with
    | true => exact ⟨_, .settleToggle s halive htog⟩
    | false => exact ⟨_, .settleStill s halive htog⟩
  | drvSel => exact ⟨_, .select s h.phaseCntLegal⟩
  | drvOff => exact ⟨_, .off s⟩
  | drvLvl => exact ⟨_, .level s⟩
  | drvEn => exact ⟨_, .enable s⟩
  | schPoll =>
    have hc : s.ctrlState = sSchPoll := ctrlState_of_decode hd nofun
    have halive : s.toggleCnt ≠ 0#8 := h.toggleCnt_ne_zero (by simp [hc])
    cases htog : s.toggled with
    | true => exact ⟨_, .pollToggle s halive htog⟩
    | false => exact ⟨_, .pollStill s halive htog⟩
  | schStep => exact ⟨_, .maskStep s⟩
  | reset => exact ⟨_, .reset s⟩

end Sys2Proof.Machine
end

section
/-!
PROOFS. What the pins show (spec/40_driver.md R125, R134, R136, R137).
-/

namespace Sys2Proof.Machine

/-- A line is at high impedance exactly when its direction bit is 1 (R93). -/
theorem State.pin_eq_z_iff (s : State) (k : Fin 4) :
    s.pin k = .z ↔ s.dir.getLsbD (s.board.config.portBit k) = true := by
  simp [State.pin]

/-- A phase drives only its own lines. -/
theorem State.Shows.eq_line_of_pin {s : State} {p : Fin 8} (h : s.Shows p) {k : Fin 4} {b : Bool}
    (hk : s.pin k = .level b) :
    k = if b then (s.board.config.entry p).high else (s.board.config.entry p).low := by
  obtain ⟨hhigh, hlow, hrest⟩ := h
  by_cases hkh : k = (s.board.config.entry p).high
  · rw [hkh, hhigh] at hk
    cases hk; exact hkh
  · by_cases hkl : k = (s.board.config.entry p).low
    · rw [hkl, hlow] at hk
      cases hk; exact hkl
    · rw [hrest k hkh hkl] at hk; cases hk

/-- The pins show at most one phase, since no two have the same lines in the same order (WF3). -/
theorem State.Shows.unique {s : State} {p q : Fin 8} (hp : s.Shows p) (hq : s.Shows q) : q = p :=
  s.board.pairs_distinct q p (hp.eq_line_of_pin hq.1) (hp.eq_line_of_pin hq.2.1)

/-- In a state that meets the invariant the direction register is all inputs or one phase's pair with its levels. -/
theorem Inv.dir_reached {s : State} (h : Inv s) :
    s.dir = offVec ∨ ∃ p, s.dir = s.board.config.enVec p ∧ s.lat = s.board.config.lvlVec p :=
  h.shadowMirrors ▸ h.portReached

/-- Settles O32: the two forms of the port the invariant allows, as the pins show them. -/
theorem atMostOneLedDriven : Obligations.AtMostOneLedDriven := by
  intro s h
  obtain hoff | ⟨p, hpair, hlevels⟩ := h.dir_reached
  · exact .inl (dark_of_dir hoff)
  · have hshows : s.Shows p := shows_of_vectors hpair hlevels
    exact .inr ⟨p, hshows, fun q hq => hshows.unique hq⟩

/-- The count of outputs is read from the direction register and the board alone. -/
theorem outputCount_congr {s t : State} (hdir : t.dir = s.dir) (hboard : t.board = s.board) :
    t.outputCount = s.outputCount := by
  rw [State.outputCount, State.outputCount, hdir, hboard]

/-- In a state that meets the invariant no shared line or two are outputs. -/
theorem Inv.outputCount_eq {s : State} (h : Inv s) : s.outputCount = 0 ∨ s.outputCount = 2 := by
  obtain hoff | ⟨p, hpair, -⟩ := h.dir_reached
  · exact .inl (outputCount_of_off hoff)
  · exact .inr (outputCount_of_pair hpair)

/-- With two outputs the shadow does not hold the all-input vector. -/
theorem Inv.dirShadow_ne_off {s : State} (h : Inv s) (htwo : s.outputCount = 2) : s.dirShadow ≠ offVec := by
  intro hoff
  rw [outputCount_of_off (h.shadowMirrors.trans hoff)] at htwo
  cases htwo

/-- Two outputs are left from a lit refresh, and last up to the next `DRV.OFF`. -/
theorem Inv.ctrlState_of_two_outputs {s : State} (h : Inv s) (htwo : s.outputCount = 2) :
    s.ctrlState = sDrvOff ∨
      ((s.ctrlState = sSchPoll ∨ s.ctrlState = sSchStep ∨ s.ctrlState = sDrvSel) ∧ s.selLit = true) := by
  have hplace : ∀ c : CtrlCode, c ≠ 0b111#3 → (c = sSettle ∨ c = sDrvLvl ∨ c = sDrvEn) ∨ c = sDrvOff ∨
      (c = sSchPoll ∨ c = sSchStep ∨ c = sDrvSel) := by decide
  obtain hinputs | hoff | hshows := hplace s.ctrlState h.ctrlLegal
  · exact absurd (h.allInputs hinputs) (h.dirShadow_ne_off htwo)
  · exact .inl hoff
  · refine .inr ⟨hshows, ?_⟩
    by_contra hdark
    have hport := h.portShows hshows
    rw [if_neg hdark] at hport
    exact h.dirShadow_ne_off htwo hport

/-- Settles O33: the count and where it may be 2 are the invariant's; of the operations, `DRV.OFF` and `RESET` leave no output,
`DRV.EN` runs in a lit refresh alone, and the others keep the direction register. -/
theorem outputCountZeroOrTwo : Obligations.OutputCountZeroOrTwo := by
  refine ⟨fun s h => ⟨h.outputCount_eq, h.ctrlState_of_two_outputs⟩, fun s t h hstep htwo => ?_⟩
  obtain ⟨i, u, hd, hexec, rfl⟩ := step_eq_next hstep
  have he : Effect i s u := exec_effect hexec
  have htwo' : u.outputCount = 2 := htwo
  rw [hd]
  by_cases hoff : i = .drvOff
  · subst hoff; cases he
    exact absurd (h.dirShadow_or_sharedMask) ((h.effect hd (.off s)).dirShadow_ne_off htwo')
  by_cases hreset : i = .reset
  · subst hreset; cases he
    exact absurd rfl ((h.effect hd (.reset s)).dirShadow_ne_off htwo')
  by_cases hen : i = .drvEn
  · subst hen
    exact .inl ⟨rfl, h.litInside (.inr (ctrlState_of_decode hd nofun))⟩
  · refine .inr ⟨?_, by simpa using hoff, by simpa using hreset⟩
    rw [← outputCount_congr (he.direction_eq hreset hoff hen).2 he.board_eq, htwo']

/-- `DRV.OFF` sets the direction bit of every shared line, whatever the shadow held. -/
theorem dark_drvOff (s : State) (c : CtrlCode) :
    ((s.setDirection (s.dirShadow ||| s.board.config.sharedMask)).goto c).Dark := by
  intro k
  simp [State.pin_eq_z_iff, Config.sharedMask_getLsbD]

/-- Settles O34: the shared lines are dark from any state, and under the invariant the vector written is all inputs. -/
theorem drvOffLeavesEveryLineDark : Obligations.DrvOffLeavesEveryLineDark := fun s =>
  ⟨_, exec_of_effect (.off s), dark_drvOff s _, fun h => ⟨h.dirShadow_or_sharedMask, h.dirShadow_or_sharedMask⟩⟩

/-- Every operation but `DRV.EN` leaves a line at high impedance where it finds it. -/
theorem Effect.pin_eq_z {i : Instr} {s t : State} (he : Effect i s t) (hen : i ≠ .drvEn) {k : Fin 4}
    (hz : s.pin k = .z) : t.pin k = .z := by
  by_cases hoff : i = .drvOff
  · subst hoff; cases he
    exact dark_drvOff s _ k
  by_cases hreset : i = .reset
  · subst hreset; cases he
    exact dark_of_dir rfl k
  · rw [State.pin_eq_z_iff] at hz ⊢
    rw [(he.direction_eq hreset hoff hen).2, he.board_eq, hz]

/-- Settles O35: no other operation drives a line that was dark, and before `DRV.EN` the invariant has the levels loaded and every
line an input. -/
theorem drvEnShowsThePhase : Obligations.DrvEnShowsThePhase := by
  refine ⟨fun i s t k hexec hz hdriven => ?_, fun s h hc => ?_⟩
  · by_contra hen
    exact hdriven ((exec_effect hexec).pin_eq_z hen hz)
  · have hlat : s.lat = s.board.config.lvlVec s.phase := h.latchLoaded hc
    have hdir : s.dir = offVec := h.shadowMirrors.trans (h.allInputs (.inr (.inr hc)))
    refine ⟨?high, ?low, dark_of_dir hdir, _, exec_of_effect (.enable s), ?shows⟩
    case high => simp [hlat, Config.lvlVec_getLsbD]
    case low => simp [hlat, Config.lvlVec_getLsbD, (s.board.portBit_high_ne_low s.phase).symm]
    case shows => exact shows_of_vectors (h.dirShadow_and_not_pair hc) hlat

end Sys2Proof.Machine
end

section
/-!
PROOFS. Steps and runs with the operations they perform (spec/42_sequencer.md R181): what every run keeps of a state, what a step of
each operation records and where it leads, and the induction over a run without reset.
-/

namespace Sys2Proof.Machine

/-- What every step keeps, with any inputs presented before it, every run keeps. -/
theorem runWith_keeps {P : State → Prop} (hinputs : ∀ s r v, P s → P (s.withInputs r v))
    (hstep : ∀ s t, P s → step s = .next t → P t) {is : List Input} {s t : State} (hs : P s)
    (hrun : runWith is s = .next t) : P t := by
  induction is generalizing s with
  | nil => cases hrun; exact hs
  | cons i is ih =>
    obtain ⟨u, hu, hrest⟩ := runWith_cons_next hrun
    exact ih (hstep _ _ (hinputs s i.rst i.tmr hs) hu) hrest

/-- Every run keeps the invariant. -/
theorem Inv.runWith {is : List Input} {s t : State} (h : Inv s) (hrun : runWith is s = .next t) : Inv t :=
  runWith_keeps (fun _ r v hs => hs.withInputs r v) (fun _ _ hs => hs.step) h hrun

/-- No run changes the configuration (R43). -/
theorem board_of_runWith {is : List Input} {s t : State} (hrun : runWith is s = .next t) : t.board = s.board := by
  refine runWith_keeps (P := fun u => u.board = s.board) (fun _ _ _ h => h) (fun u v h hstep => ?_) rfl hrun
  obtain ⟨i, w, -, hexec, rfl⟩ := step_eq_next hstep
  exact (exec_effect hexec).board_eq.trans h

/-- With the inputs `i`, the step from `s` performs `op` and leads to `t`. -/
structure Performs (i : Input) (op : Instr) (s t : State) : Prop where
  decoded : decode (s.withInputs i.rst i.tmr).opw = .ok op
  stepped : stepWith s i.rst i.tmr = .next t

/-- With the inputs `is`, the run from `s` performs `ops` and leads to `t`. -/
structure Runs (is : List Input) (ops : List Instr) (s t : State) : Prop where
  performed : opsOf is s = ops
  ends : runWith is s = .next t

theorem Runs.nil (s : State) : Runs [] [] s s := ⟨rfl, rfl⟩

theorem Runs.cons {i : Input} {is : List Input} {op : Instr} {ops : List Instr} {s t u : State}
    (h : Performs i op s t) (hrest : Runs is ops t u) : Runs (i :: is) (op :: ops) s u where
  performed := by rw [opsOf_cons_of_step h.decoded h.stepped, hrest.performed]
  ends := by rw [runWith_cons_of_step h.stepped, hrest.ends]

theorem Runs.append {is js : List Input} {ops ops' : List Instr} {s t u : State} (h : Runs is ops s t)
    (hrest : Runs js ops' t u) : Runs (is ++ js) (ops ++ ops') s u where
  performed := by rw [opsOf_append h.ends, h.performed, hrest.performed]
  ends := by rw [runWith_append h.ends, hrest.ends]

section
variable {i : Input} {op : Instr} {s t : State}

/-- A step has the effect of its operation, and then the next inputs are presented. -/
theorem Performs.effect (h : Performs i op s t) :
    ∃ u, Effect op (s.withInputs i.rst i.tmr) u ∧ t = u.presentInputs := by
  obtain ⟨op', u, hd, hexec, rfl⟩ := step_eq_next h.stepped
  cases h.decoded.symm.trans hd
  exact ⟨u, exec_effect hexec, rfl⟩

/-- A step keeps the invariant. -/
theorem Performs.inv (h : Performs i op s t) (hs : Inv s) : Inv t :=
  (hs.withInputs _ _).step h.stepped

/-- From a state that meets the invariant every step completes, whatever the inputs (R200). -/
theorem Inv.exists_performs (h : Inv s) (i : Input) : ∃ op t, Performs i op s t := by
  have hin := h.withInputs i.rst i.tmr
  obtain ⟨op, hd⟩ := hin.exists_decode
  obtain ⟨u, he⟩ := hin.exists_effect hd
  exact ⟨op, _, hd, step_of_exec hd (exec_of_effect he)⟩

/-- Without reset the controller state chooses the operation. -/
theorem decode_withInputs_quiet (hq : i.rst = false) :
    decode (s.withInputs i.rst i.tmr).opw = decodeCtrl s.ctrlState := by
  simp [decode_opw, hq]

theorem decodeCtrl_ne_reset : ∀ c : CtrlCode, decodeCtrl c ≠ .ok .reset := by decide

theorem Performs.ne_reset (h : Performs i op s t) (hq : i.rst = false) : op ≠ .reset := by
  rintro rfl
  exact decodeCtrl_ne_reset _ ((decode_withInputs_quiet hq).symm.trans h.decoded)

/-- Without reset, the step from a state that meets the invariant performs the operation of its controller state. -/
theorem Inv.exists_performs_of_ctrl (h : Inv s) (hq : i.rst = false) (hc : decodeCtrl s.ctrlState = .ok op) :
    ∃ t, Performs i op s t := by
  obtain ⟨op', t, ht⟩ := h.exists_performs i
  cases hc.symm.trans ((decode_withInputs_quiet hq).symm.trans ht.decoded)
  exact ⟨t, ht⟩

theorem Performs.board_eq (h : Performs i op s t) : t.board = s.board := by
  obtain ⟨u, he, rfl⟩ := h.effect
  exact he.board_eq

theorem Performs.mask_eq (h : Performs i op s t) (hreset : op ≠ .reset) (hstep : op ≠ .schStep) :
    t.mask = s.mask := by
  obtain ⟨u, he, rfl⟩ := h.effect
  exact he.mask_eq hreset hstep

theorem Performs.toggleCnt_eq (h : Performs i op s t) (hreset : op ≠ .reset) (hstep : op ≠ .schStep)
    (hpoll : op ≠ .schPoll) : t.toggleCnt = s.toggleCnt := by
  obtain ⟨u, he, rfl⟩ := h.effect
  exact he.toggleCnt_eq hreset hstep hpoll

theorem Performs.lastMsb_eq (h : Performs i op s t) (hreset : op ≠ .reset) (hsettle : op ≠ .setPoll)
    (hpoll : op ≠ .schPoll) : t.lastMsb = s.lastMsb := by
  obtain ⟨u, he, rfl⟩ := h.effect
  exact he.lastMsb_eq hreset hsettle hpoll

theorem Performs.selection_eq (h : Performs i op s t) (hreset : op ≠ .reset) (hsel : op ≠ .drvSel) :
    t.phaseCnt = s.phaseCnt ∧ t.selPhase = s.selPhase ∧ t.selLit = s.selLit := by
  obtain ⟨u, he, rfl⟩ := h.effect
  exact he.selection_eq hreset hsel

theorem Performs.phase_eq (h : Performs i op s t) (hreset : op ≠ .reset) (hsel : op ≠ .drvSel) : t.phase = s.phase :=
  congrArg BitVec.toFin (h.selection_eq hreset hsel).2.1

theorem Performs.lat_eq (h : Performs i op s t) (hreset : op ≠ .reset) (hlvl : op ≠ .drvLvl) : t.lat = s.lat := by
  obtain ⟨u, he, rfl⟩ := h.effect
  exact he.lat_eq hreset hlvl

end

/-- The induction over a run without reset from a state that meets the invariant, one completed step at a time. -/
theorem quiet_run_induction {motive : ∀ (is : List Input) (s : State), Inv s → Quiet is → Prop}
    (nil : ∀ s hs hq, motive [] s hs hq)
    (cons : ∀ i is op s t hs hq (hp : Performs i op s t) (_ : op ≠ .reset)
      (_ : motive is t (hp.inv hs) (List.forall_mem_cons.1 hq).2), motive (i :: is) s hs hq)
    (is : List Input) (s : State) (hs : Inv s) (hq : Quiet is) : motive is s hs hq := by
  induction is generalizing s with
  | nil => exact nil s hs hq
  | cons i is ih =>
    obtain ⟨op, t, hp⟩ := hs.exists_performs i
    exact cons i is op s t hs hq hp (hp.ne_reset (List.forall_mem_cons.1 hq).1) (ih t _ _)

/-- The run after a first step. -/
theorem Performs.runWith_cons {i : Input} {is : List Input} {op : Instr} {s t u : State} (h : Performs i op s t)
    (hrun : runWith (i :: is) s = .next u) : runWith is t = .next u :=
  (runWith_cons_of_step h.stepped).symm.trans hrun

/-- A run with no `SCH.STEP` in it has none in its first step and none after it. -/
theorem Performs.schStep_notMem {i : Input} {is : List Input} {op : Instr} {s t : State} (h : Performs i op s t)
    (hno : .schStep ∉ opsOf (i :: is) s) : op ≠ .schStep ∧ .schStep ∉ opsOf is t := by
  rw [opsOf_cons_of_step h.decoded h.stepped, List.mem_cons, not_or] at hno
  exact ⟨Ne.symm hno.1, hno.2⟩

/-- What every operation of a run leaves in place, the run leaves in place. -/
theorem runWith_frame {α : Type} {f : State → α} {p : Instr → Prop}
    (hf : ∀ i op s t, Performs i op s t → op ≠ .reset → p op → f t = f s) {is : List Input} {s u : State}
    (hs : Inv s) (hq : Quiet is) (hp : ∀ op ∈ opsOf is s, p op) (hrun : runWith is s = .next u) : f u = f s := by
  induction is, s, hs, hq using quiet_run_induction with
  | nil s => cases hrun; rfl
  | cons i is op s t hs hq h hreset ih =>
    rw [opsOf_cons_of_step h.decoded h.stepped, List.forall_mem_cons] at hp
    rw [ih hp.2 (h.runWith_cons hrun), hf i op s t h hreset hp.1]

/-- What `DRV.SEL` makes of the phase registers, and that it records nothing (R120). -/
theorem Performs.drvSel {i : Input} {s t : State} (h : Performs i .drvSel s t) :
    t.phaseCnt = nextPhaseCnt s.phaseCnt ∧ t.selPhase = servedPhase s.phaseCnt ∧
      t.selLit = s.maskBitOf (servedPhase s.phaseCnt) ∧ t.ctrlState = sDrvOff ∧ t.history = s.history := by
  obtain ⟨u, he, rfl⟩ := h.effect
  cases he
  exact ⟨rfl, rfl, rfl, rfl, rfl⟩

/-- `DRV.OFF` records the two all-input writes, and the selected phase's mask bit chooses what follows (R124). -/
theorem Performs.drvOff {i : Input} {s t : State} (h : Performs i .drvOff s t) (hs : Inv s) :
    t.ctrlState = (if s.selLit then sDrvLvl else sSchPoll) ∧
      t.history = s.history ++ [.shadowWrite offVec, .dirWrite offVec] := by
  obtain ⟨u, he, rfl⟩ := h.effect
  cases he
  exact ⟨rfl, by simp [hs.dirShadow_or_sharedMask]⟩

/-- `DRV.LVL` records the phase's levels (R127). -/
theorem Performs.drvLvl {i : Input} {s t : State} (h : Performs i .drvLvl s t) :
    t.ctrlState = sDrvEn ∧ t.history = s.history ++ [.latWrite (s.board.config.lvlVec s.phase)] := by
  obtain ⟨u, he, rfl⟩ := h.effect
  cases he
  exact ⟨rfl, rfl⟩

/-- `DRV.EN` records the two writes that enable the phase's pair (R130). -/
theorem Performs.drvEn {i : Input} {s t : State} (h : Performs i .drvEn s t) (hs : Inv s) :
    t.ctrlState = sSchPoll ∧ t.history = s.history ++
      [.shadowWrite (s.board.config.enVec s.phase), .dirWrite (s.board.config.enVec s.phase)] := by
  have hc : s.ctrlState = sDrvEn := ctrlState_of_decode h.decoded nofun
  obtain ⟨u, he, rfl⟩ := h.effect
  cases he
  simp [hs.dirShadow_and_not_pair hc]

/-- `SCH.POLL` records its sample, and goes on to the mask step when the sample shows the last toggle of the countdown
(R154). -/
theorem Performs.schPoll {i : Input} {s t : State} (h : Performs i .schPoll s t) :
    t.history = s.history ++ [.tmrSample (i.bit s.board.config)] ∧
      t.ctrlState = if i.bit s.board.config ≠ s.lastMsb ∧ s.toggleCnt = 1#8 then sSchStep else sDrvSel := by
  have hlast : s.toggleCnt - 1#8 = 0#8 ↔ s.toggleCnt = 1#8 := by bv_omega
  obtain ⟨u, he, rfl⟩ := h.effect
  cases he with
  | pollToggle _ alive toggle =>
    have hbit : s.board.config.timer.bit i.tmr ≠ s.lastMsb := by simpa [State.toggled] using toggle
    simp [hbit, hlast, Input.bit]
  | pollStill _ alive still =>
    have hbit : s.board.config.timer.bit i.tmr = s.lastMsb := by simpa [State.toggled] using still
    simp [hbit, Input.bit]

/-- `SCH.STEP` records nothing (R157). -/
theorem Performs.schStep {i : Input} {s t : State} (h : Performs i .schStep s t) : t.history = s.history := by
  obtain ⟨u, he, rfl⟩ := h.effect
  cases he
  rfl

end Sys2Proof.Machine
end

section
/-!
PROOFS. The order of the port writes (spec/20_memory.md R80, spec/40_driver.md R128, R135): every step appends its events in place.
-/

namespace Sys2Proof.Machine

/-- What the order asks of one event, given the events before it and after it: the four clauses of `OrderedHistory`, each about
its own kind of event. -/
def EventInPlace (c : Config) (pre : List Event) (e : Event) (post : List Event) : Prop :=
  match e with
  | .shadowWrite v => ∃ post', post = .dirWrite v :: post'
  | .dirWrite v => (∃ pre', pre = pre' ++ [.shadowWrite v]) ∧
      (v = offVec ∨ ∃ p pre', v = c.enVec p ∧
        pre = pre' ++ [.shadowWrite offVec, .dirWrite offVec, .latWrite (c.lvlVec p), .shadowWrite v])
  | .latWrite v => ∃ p pre', v = c.lvlVec p ∧ pre = pre' ++ [.shadowWrite offVec, .dirWrite offVec]
  | .reset => True
  | .tmrSample _ => True

theorem EventInPlace.reset {c : Config} {pre post : List Event} : EventInPlace c pre .reset post := trivial

theorem EventInPlace.tmrSample {c : Config} {pre post : List Event} {b : Bool} :
    EventInPlace c pre (.tmrSample b) post := trivial

/-- A history is in order when each of its events is in place. -/
theorem orderedHistory_iff {c : Config} {h : List Event} :
    OrderedHistory c h ↔ ∀ pre e post, h = pre ++ e :: post → EventInPlace c pre e post where
  mp ho pre e post heq := by
    cases e with
    | shadowWrite v => exact ho.shadowThenDir pre v post heq
    | dirWrite v => exact ⟨ho.dirAfterShadow pre v post heq, ho.enableAfterLevel pre v post heq⟩
    | latWrite v => exact ho.levelAfterOff pre v post heq
    | reset => trivial
    | tmrSample b => trivial
  mpr hall :=
    { shadowThenDir := fun pre v post => hall pre (.shadowWrite v) post
      dirAfterShadow := fun pre v post heq => (hall pre (.dirWrite v) post heq).1
      levelAfterOff := fun pre v post => hall pre (.latWrite v) post
      enableAfterLevel := fun pre v post heq => (hall pre (.dirWrite v) post heq).2 }

/-- An event in place stays in place when the history grows. -/
theorem EventInPlace.append {c : Config} {pre post : List Event} {e : Event} (h : EventInPlace c pre e post)
    (more : List Event) : EventInPlace c pre e (post ++ more) := by
  cases e with
  | shadowWrite v =>
    obtain ⟨post', rfl⟩ := h
    exact ⟨post' ++ more, rfl⟩
  | _ => exact h

/-- A history in order stays in order when the events appended are in place. -/
theorem OrderedHistory.append {c : Config} {h more : List Event} (ho : OrderedHistory c h)
    (hmore : ∀ pre e post, more = pre ++ e :: post → EventInPlace c (h ++ pre) e post) :
    OrderedHistory c (h ++ more) := by
  rw [orderedHistory_iff] at ho ⊢
  intro pre e post heq
  obtain ⟨k, rfl, hk⟩ | ⟨k, hk, hpost⟩ := List.append_eq_append_iff.1 heq
  · exact hmore k e post hk
  · cases k with
    | nil =>
      obtain rfl : h = pre := by simpa using hk
      simpa using hmore [] e post (by simpa using hpost.symm)
    | cons e' k =>
      obtain ⟨rfl, rfl⟩ : e = e' ∧ post = k ++ more := by simpa using hpost
      exact (ho pre e k hk).append more

/-- One event appended in place. -/
theorem OrderedHistory.append_one {c : Config} {h : List Event} {e : Event} (ho : OrderedHistory c h)
    (he : EventInPlace c h e []) : OrderedHistory c (h ++ [e]) := by
  refine ho.append fun pre e' post heq => ?_
  rcases pre with _ | ⟨a, pre⟩ <;> simp at heq
  obtain ⟨rfl, rfl⟩ := heq
  simpa using he

/-- A direction change appended: the shadow, then the register, of the all-input vector, or of the pair of the phase whose levels
have just been written. -/
theorem OrderedHistory.append_direction {c : Config} {h : List Event} {v : Byte} (ho : OrderedHistory c h)
    (hv : v = offVec ∨ ∃ p pre, v = c.enVec p ∧
      h = pre ++ [.shadowWrite offVec, .dirWrite offVec, .latWrite (c.lvlVec p)]) :
    OrderedHistory c (h ++ [.shadowWrite v, .dirWrite v]) := by
  refine ho.append fun pre e post heq => ?_
  rcases pre with _ | ⟨a, _ | ⟨b, pre⟩⟩ <;> simp at heq
  · obtain ⟨rfl, rfl⟩ := heq
    exact ⟨[], rfl⟩
  · obtain ⟨rfl, rfl, rfl⟩ := heq
    refine ⟨⟨h, rfl⟩, hv.imp_right ?_⟩
    rintro ⟨p, pre, hp, rfl⟩
    exact ⟨p, pre, hp, by simp⟩

/-- Where neither `DRV.LVL` nor `DRV.EN` is next, the order is all that the history's invariant asks. -/
theorem HistoryInv.of_ordered {t : State} (ho : OrderedHistory t.board.config t.history)
    (hc : t.ctrlState ≠ sDrvLvl ∧ t.ctrlState ≠ sDrvEn) : HistoryInv t :=
  ⟨ho, fun h => absurd h hc.1, fun h => absurd h hc.2⟩

section
variable {s : State} (h : HistoryInv s)
include h

/-- `DRV.OFF` appends the all-input writes, which `DRV.LVL` then finds last. -/
theorem HistoryInv.off (c : CtrlCode) (hen : c ≠ sDrvEn) : HistoryInv ((s.setDirection offVec).goto c) where
  ordered := by simpa using h.ordered.append_direction (.inl rfl)
  beforeLevel _ := ⟨s.history, by simp⟩
  beforeEnable hc := absurd hc hen

/-- `DRV.LVL` appends the phase's levels to the all-input writes, and `DRV.EN` then finds them last. -/
theorem HistoryInv.level (hc : s.ctrlState = sDrvLvl) :
    HistoryInv ((s.writeLat (s.board.config.lvlVec s.phase)).goto sDrvEn) := by
  obtain ⟨pre, hpre⟩ := h.beforeLevel hc
  exact
    { ordered := h.ordered.append_one ⟨s.phase, pre, rfl, hpre⟩
      beforeLevel := nofun
      beforeEnable := fun _ => ⟨pre, by simp [hpre]⟩ }

/-- `DRV.EN` appends the enabling of the phase whose levels are last. -/
theorem HistoryInv.enable (hc : s.ctrlState = sDrvEn) :
    HistoryInv ((s.setDirection (s.board.config.enVec s.phase)).goto sSchPoll) := by
  obtain ⟨pre, hpre⟩ := h.beforeEnable hc
  refine .of_ordered ?_ (by simp)
  simpa using h.ordered.append_direction (.inr ⟨s.phase, pre, rfl, hpre⟩)

/-- Every operation keeps the order, from a state that meets the invariant. -/
theorem HistoryInv.effect {i : Instr} {t : State} (hs : Inv s) (hd : decode s.opw = .ok i) (he : Effect i s t) :
    HistoryInv t := by
  cases he with
  | settleToggle => exact .of_ordered (h.ordered.append_one .tmrSample) (by simp; split <;> simp)
  | settleStill => exact .of_ordered (h.ordered.append_one .tmrSample) (by simp)
  | select => exact .of_ordered h.ordered (by simp)
  | off => rw [hs.dirShadow_or_sharedMask]; exact h.off _ (by split <;> simp)
  | level => exact h.level (ctrlState_of_decode hd nofun)
  | enable =>
    have hc : s.ctrlState = sDrvEn := ctrlState_of_decode hd nofun
    rw [hs.dirShadow_and_not_pair hc]; exact h.enable hc
  | pollToggle => exact .of_ordered (h.ordered.append_one .tmrSample) (by simp; split <;> simp)
  | pollStill => exact .of_ordered (h.ordered.append_one .tmrSample) (by simp)
  | maskStep => exact .of_ordered h.ordered (by simp)
  | reset => exact .of_ordered (h.ordered.append_one .reset) (by simp)

end

/-- Every step that completes keeps the order, from a state that meets the invariant. -/
theorem HistoryInv.step {s t : State} (h : HistoryInv s) (hs : Inv s) (hstep : step s = .next t) : HistoryInv t := by
  obtain ⟨i, u, hd, hexec, rfl⟩ := step_eq_next hstep
  exact (h.effect hs hd (exec_effect hexec)).presentInputs

/-- The one event of power-up is in order. -/
theorem historyInv_powerUp (b : Board) : HistoryInv (State.powerUp b) :=
  .of_ordered (OrderedHistory.append_one (h := []) (orderedHistory_iff.2 (by simp)) .reset) (by simp [State.powerUp])

/-- Settles O38: both invariants hold at power-up, and every run keeps them. -/
theorem everyHistoryOrdered : Obligations.EveryHistoryOrdered := by
  intro b is t hrun
  obtain ⟨-, hhistory⟩ := runWith_keeps (P := fun s => Inv s ∧ HistoryInv s)
    (fun s r v h => ⟨h.1.withInputs r v, h.2.withInputs r v⟩) (fun s t h hstep => ⟨h.1.step hstep, h.2.step h.1 hstep⟩)
    ⟨inv_powerUp b, historyInv_powerUp b⟩ hrun
  have hboard : t.board = b := board_of_runWith hrun
  exact hboard ▸ hhistory.ordered

end Sys2Proof.Machine
end

section
/-!
PROOFS. The phases a run serves (spec/40_driver.md R121, R122, R139): `DRV.SEL` alone moves the phase counter, so they are read off the
counter's own sequence, whose length is all that the samples decide.
-/

namespace Sys2Proof

/-- The phase a selection serves when the counter holds c, as an index of the table. -/
def servedIndex (c : BitVec 4) : Fin 8 := (servedPhase c).toFin

/-- The counter stays in 0..8. -/
theorem iterate_nextPhaseCnt_le {c : BitVec 4} (hc : c ≤ 8#4) (n : Nat) : nextPhaseCnt^[n] c ≤ 8#4 := by
  induction n generalizing c with
  | zero => exact hc
  | succ n ih => exact ih (nextPhaseCnt_spec c hc).1

/-- Eight selections bring the counter back to the phase it served. -/
theorem servedPhase_iterate_eight : ∀ c : BitVec 4, c ≤ 8#4 → servedPhase (nextPhaseCnt^[8] c) = servedPhase c := by
  decide

/-- From the counter's reset value the phases served are 0, 7, 6, 5, 4, 3, 2, 1, 0, 7, ... -/
theorem servedIndex_iterate_zero (n : Nat) : servedIndex (nextPhaseCnt^[n] 0#4) = Fin.ofNat 8 (8 - n % 8) := by
  have hfirst : ∀ m : Fin 8, servedIndex (nextPhaseCnt^[m.val] 0#4) = Fin.ofNat 8 (8 - m.val) := by decide
  have hperiod : Function.Periodic (fun n => servedIndex (nextPhaseCnt^[n] 0#4)) 8 := fun n => by
    dsimp only
    rw [Nat.add_comm, Function.iterate_add_apply, servedIndex,
      servedPhase_iterate_eight _ (iterate_nextPhaseCnt_le (by decide) n), servedIndex]
  rw [← hperiod.map_mod_nat n]
  exact hfirst ⟨n % 8, Nat.mod_lt n (by decide)⟩

/-- The phases of eight selections are the eight phases. -/
theorem count_servedIndex_eight : ∀ c : BitVec 4, c ≤ 8#4 → ∀ p : Fin 8,
    ((List.iterate nextPhaseCnt c 8).map servedIndex).count p = 1 := by decide

end Sys2Proof

namespace Sys2Proof.Machine

/-- The phases a run without reset serves are those of the counter's sequence. -/
theorem collect_phase {is : List Input} {s : State} (hs : Inv s) (hq : Quiet is) :
    collect .drvSel State.phase is s =
      (List.iterate nextPhaseCnt s.phaseCnt (collect .drvSel State.phase is s).length).map servedIndex := by
  induction is, s, hs, hq using quiet_run_induction with
  | nil s => rfl
  | cons i is op s t hs hq hp hreset ih =>
    rw [collect_cons_of_step hp.decoded hp.stepped]
    by_cases hsel : op = .drvSel
    · subst hsel
      obtain ⟨hcnt, hphase, -⟩ := hp.drvSel
      rw [if_pos rfl, List.length_cons, List.iterate, List.map_cons, ← hcnt, ← ih, State.phase, hphase, servedIndex]
    · rw [if_neg hsel, ← (hp.selection_eq hreset hsel).1, ← ih]

/-- The counter a run without reset leaves is as many selections on. -/
theorem phaseCnt_of_runWith {is : List Input} {s u : State} (hs : Inv s) (hq : Quiet is)
    (hrun : runWith is s = .next u) :
    u.phaseCnt = nextPhaseCnt^[(collect .drvSel State.phase is s).length] s.phaseCnt := by
  induction is, s, hs, hq using quiet_run_induction with
  | nil s => cases hrun; rfl
  | cons i is op s t hs hq hp hreset ih =>
    rw [ih (hp.runWith_cons hrun), collect_cons_of_step hp.decoded hp.stepped]
    by_cases hsel : op = .drvSel
    · subst hsel
      rw [if_pos rfl, List.length_cons, Function.iterate_succ_apply, hp.drvSel.1]
    · rw [if_neg hsel, (hp.selection_eq hreset hsel).1]

/-- The settle wait leaves the counter at its reset value. -/
theorem Inv.phaseCnt_of_settle {s : State} (h : Inv s) (hc : s.ctrlState = sSettle) : s.phaseCnt = 0#4 :=
  (h.settleFresh hc).2.1

/-- The n-th phase served in a run without reset. -/
theorem collect_phase_getElem? {is : List Input} {s : State} (hs : Inv s) (hq : Quiet is) {n : Nat}
    (hn : n < (collect .drvSel State.phase is s).length) :
    (collect .drvSel State.phase is s)[n]? = some (servedIndex (nextPhaseCnt^[n] s.phaseCnt)) := by
  rw [collect_phase hs hq, List.getElem?_map, List.getElem?_iterate _ _ _ _ hn, Option.map_some]

/-- Settles O40: from a reset the counter starts at 0. -/
theorem phasesServedInOrder : Obligations.PhasesServedInOrder := by
  intro s is hs hc hq
  refine List.ext_getElem? fun n => ?_
  by_cases hn : n < (collect .drvSel State.phase is s).length
  · rw [collect_phase_getElem? hs hq hn, hs.phaseCnt_of_settle hc, servedIndex_iterate_zero, List.getElem?_map,
      List.getElem?_range hn, Option.map_some]
  · rw [List.getElem?_eq_none (Nat.le_of_not_lt hn), List.getElem?_eq_none (by simpa using hn)]

/-- Any eight consecutive selections of a run without reset serve each phase once. -/
theorem count_of_window {is : List Input} {s : State} (hs : Inv s) (hq : Quiet is) {pre w post : List (Fin 8)}
    (hsplit : collect .drvSel State.phase is s = pre ++ w ++ post) (hw : w.length = 8) (p : Fin 8) :
    w.count p = 1 := by
  have hall := collect_phase hs hq
  rw [hsplit, List.length_append, List.length_append, hw, List.iterate_add, List.iterate_add, List.map_append,
    List.map_append] at hall
  have hwindow : w = (List.iterate nextPhaseCnt (nextPhaseCnt^[pre.length] s.phaseCnt) 8).map servedIndex :=
    (List.append_inj (List.append_inj hall (by simp [hw])).1 (by simp)).2
  rw [hwindow, count_servedIndex_eight _ (iterate_nextPhaseCnt_le hs.phaseCntLegal _)]

/-- Settles O41: eight selections bring the counter back, and a window of eight is eight of its values. -/
theorem phasesServedWithPeriodEight : Obligations.PhasesServedWithPeriodEight := by
  intro s is hs hc hq
  refine ⟨fun n p hp => ?_, fun pre w post hsplit hw => count_of_window hs hq hsplit hw⟩
  obtain ⟨hn, -⟩ := List.getElem?_eq_some_iff.1 hp
  rw [collect_phase_getElem? hs hq hn, hs.phaseCnt_of_settle hc, servedIndex_iterate_zero] at hp
  rw [collect_phase_getElem? hs hq (Nat.lt_of_le_of_lt (Nat.le_add_right n 8) hn), hs.phaseCnt_of_settle hc,
    servedIndex_iterate_zero, ← Nat.add_mod_right n 8, hp]

/-- With no mask step in the run, each phase served is lit as the mask it began with says. -/
theorem collect_phase_selLit {is : List Input} {s : State} (hs : Inv s) (hq : Quiet is)
    (hno : .schStep ∉ opsOf is s) :
    collect .drvSel (fun t => (t.phase, t.selLit)) is s =
      (collect .drvSel State.phase is s).map fun p => (p, s.mask.getLsbD (s.board.config.entry p).maskBit) := by
  induction is, s, hs, hq using quiet_run_induction with
  | nil s => rfl
  | cons i is op s t hs hq hp hreset ih =>
    obtain ⟨hstep, hno'⟩ := hp.schStep_notMem hno
    rw [collect_cons_of_step hp.decoded hp.stepped, collect_cons_of_step hp.decoded hp.stepped, ih hno',
      hp.mask_eq hreset hstep, hp.board_eq]
    by_cases hsel : op = .drvSel
    · subst hsel
      obtain ⟨-, hphase, hlit, -⟩ := hp.drvSel
      rw [if_pos rfl, if_pos rfl, List.map_cons, hlit, State.maskBitOf, State.phase, hphase]
    · rw [if_neg hsel, if_neg hsel]

/-- In a list of values each with its image under f, a pair occurs as often as its first part, or not at all. -/
theorem count_map_graph {α β : Type} [DecidableEq α] [DecidableEq β] (f : α → β) (l : List α) (a : α) (b : β) :
    (l.map fun x => (x, f x)).count (a, b) = if b = f a then l.count a else 0 := by
  split
  case isTrue hb =>
    have hinj : Function.Injective fun x => (x, f x) := fun x y hxy => (Prod.ext_iff.1 hxy).1
    rw [hb, List.count_map_of_injective l _ hinj a]
  case isFalse hb =>
    refine List.count_eq_zero.2 fun hmem => hb ?_
    obtain ⟨x, -, hx⟩ := List.mem_map.1 hmem
    cases hx; rfl

/-- Settles O50: the eight selections are one window, and the mask bit of each is the mask's it began with. -/
theorem eachDesiredPhaseLitOnce : Obligations.EachDesiredPhaseLitOnce := by
  intro s is hs hq hno hlen p lit
  have honce : (collect .drvSel State.phase is s).count p = 1 :=
    count_of_window (pre := []) (post := []) hs hq (by simp) hlen p
  rw [collect_phase_selLit hs hq hno, count_map_graph, honce]

end Sys2Proof.Machine
end

section
/-!
PROOFS. One refresh, and the poll after it (spec/40_driver.md R126, R132, R133; spec/41_scheduler.md R164): the run of its steps from
`S_DRV_SEL`, and the port writes of every first part of it.
-/

namespace Sys2Proof.Machine

/-- The first two steps of a refresh select the phase and turn every line to input. -/
theorem runs_select_off {s : State} {i j : Input} (hs : Inv s) (hc : s.ctrlState = sDrvSel) (hi : i.rst = false)
    (hj : j.rst = false) :
    ∃ u, Runs [i, j] [.drvSel, .drvOff] s u ∧ Inv u ∧ u.selPhase = servedPhase s.phaseCnt ∧
      u.selLit = s.maskBitOf (servedPhase s.phaseCnt) ∧
      u.ctrlState = (if s.maskBitOf (servedPhase s.phaseCnt) then sDrvLvl else sSchPoll) ∧
      u.history = s.history ++ [.shadowWrite offVec, .dirWrite offVec] ∧ u.lat = s.lat := by
  obtain ⟨t, ht⟩ := hs.exists_performs_of_ctrl (op := .drvSel) hi (by rw [hc]; rfl)
  obtain ⟨-, hphase, hlit, hct, hth⟩ := ht.drvSel
  obtain ⟨u, hu⟩ := (ht.inv hs).exists_performs_of_ctrl (op := .drvOff) hj (by rw [hct]; rfl)
  obtain ⟨hcu, huh⟩ := hu.drvOff (ht.inv hs)
  obtain ⟨-, hphase', hlit'⟩ := hu.selection_eq nofun nofun
  refine ⟨u, .cons ht (.cons hu (.nil u)), hu.inv (ht.inv hs), hphase'.trans hphase, hlit'.trans hlit, ?_, ?_, ?_⟩
  · rw [hcu, hlit]
  · rw [huh, hth]
  · rw [hu.lat_eq nofun nofun, ht.lat_eq nofun nofun]

/-- The last two steps of a lit refresh write the phase's levels and enable its pair. -/
theorem runs_level_enable {s : State} {i j : Input} (hs : Inv s) (hc : s.ctrlState = sDrvLvl) (hi : i.rst = false)
    (hj : j.rst = false) :
    ∃ u, Runs [i, j] [.drvLvl, .drvEn] s u ∧ Inv u ∧ u.selPhase = s.selPhase ∧ u.ctrlState = sSchPoll ∧
      u.history = s.history ++ [.latWrite (s.board.config.lvlVec s.phase),
        .shadowWrite (s.board.config.enVec s.phase), .dirWrite (s.board.config.enVec s.phase)] := by
  obtain ⟨t, ht⟩ := hs.exists_performs_of_ctrl (op := .drvLvl) hi (by rw [hc]; rfl)
  obtain ⟨hct, hth⟩ := ht.drvLvl
  obtain ⟨u, hu⟩ := (ht.inv hs).exists_performs_of_ctrl (op := .drvEn) hj (by rw [hct]; rfl)
  obtain ⟨hcu, huh⟩ := hu.drvEn (ht.inv hs)
  refine ⟨u, .cons ht (.cons hu (.nil u)), hu.inv (ht.inv hs),
    (hu.selection_eq nofun nofun).2.1.trans (ht.selection_eq nofun nofun).2.1, hcu, ?_⟩
  rw [huh, hth, ht.board_eq, ht.phase_eq nofun nofun, List.append_assoc, List.singleton_append]

/-- A refresh performs its operations, records its events and leads to the poll. -/
theorem runs_refresh {s : State} {is : List Input} (hs : Inv s) (hc : s.ctrlState = sDrvSel) (hq : Quiet is)
    (hlen : is.length = (refreshOps (s.maskBitOf (servedPhase s.phaseCnt))).length) :
    ∃ u, Runs is (refreshOps (s.maskBitOf (servedPhase s.phaseCnt))) s u ∧ Inv u ∧
      u.selPhase = servedPhase s.phaseCnt ∧ u.ctrlState = sSchPoll ∧
      u.history = s.history ++
        refreshEvents s.board.config (servedPhase s.phaseCnt).toFin (s.maskBitOf (servedPhase s.phaseCnt)) := by
  cases hlit : s.maskBitOf (servedPhase s.phaseCnt) with
  | false =>
    rw [hlit] at hlen
    match is, hlen with
    | [i, j], _ =>
      obtain ⟨u, hrun, hu, hphase, -, hcu, hhist, -⟩ := runs_select_off hs hc (hq i (by simp)) (hq j (by simp))
      exact ⟨u, hrun, hu, hphase, by simpa [hlit] using hcu, hhist⟩
  | true =>
    rw [hlit] at hlen
    match is, hlen with
    | [i, j, k, l], _ =>
      obtain ⟨t, hrun, ht, hphase, -, hct, hhist, -⟩ := runs_select_off hs hc (hq i (by simp)) (hq j (by simp))
      rw [hlit, if_pos rfl] at hct
      obtain ⟨u, hrun', hu, hphase', hcu, hhist'⟩ := runs_level_enable ht hct (hq k (by simp)) (hq l (by simp))
      refine ⟨u, hrun.append hrun', hu, hphase'.trans hphase, hcu, ?_⟩
      rw [hhist', hhist, List.append_assoc, board_of_runWith hrun.ends, State.phase, hphase]
      rfl

/-- A refresh is made of the driver's operations alone. -/
theorem driver_of_mem_refreshOps {lit : Bool} {op : Instr} (h : op ∈ refreshOps lit) :
    op ≠ .setPoll ∧ op ≠ .schPoll ∧ op ≠ .schStep := by
  cases lit <;> revert op <;> decide

/-- Settles O47: the refresh's run, then the poll, which finds the countdown and the last sample as the refresh found them. -/
theorem iterationStructure : Obligations.IterationStructure := by
  intro s is i hs hc hq hi hlen
  obtain ⟨u, hrun, hu, hphase, hcu, hhist⟩ := runs_refresh hs hc hq hlen
  have hops : ∀ op ∈ opsOf is s, op ≠ .setPoll ∧ op ≠ .schPoll ∧ op ≠ .schStep := by
    rw [hrun.performed]
    exact fun op => driver_of_mem_refreshOps
  have htoggle : u.toggleCnt = s.toggleCnt := runWith_frame (f := State.toggleCnt)
    (fun i op s t hp hreset ⟨_, hpoll, hstep⟩ => hp.toggleCnt_eq hreset hstep hpoll) hs hq hops hrun.ends
  have hlast : u.lastMsb = s.lastMsb := runWith_frame (f := State.lastMsb)
    (fun i op s t hp hreset ⟨hsettle, hpoll, _⟩ => hp.lastMsb_eq hreset hsettle hpoll) hs hq hops hrun.ends
  have hboard : u.board = s.board := board_of_runWith hrun.ends
  obtain ⟨t, ht⟩ := hu.exists_performs_of_ctrl (op := .schPoll) hi (by rw [hcu]; rfl)
  obtain ⟨hhist', hct⟩ := ht.schPoll
  have hall := hrun.append (.cons ht (.nil t))
  refine ⟨hall.performed, t, hall.ends, ?_, ?_, ?_⟩
  · rw [hhist', hhist, hboard]
  · rw [(ht.selection_eq nofun nofun).2.1, hphase]
  · rw [hct, hboard, hlast, htoggle]

/-- In `S_SCH_POLL` after a dark refresh every line is an input. -/
theorem Inv.dark_of_unlit {s : State} (h : Inv s) (hc : s.ctrlState = sSchPoll) (hlit : s.selLit = false) : s.Dark := by
  have hport := h.portShows (.inl hc)
  rw [hlit, if_neg Bool.false_ne_true] at hport
  exact dark_of_dir (h.shadowMirrors.trans hport)

/-- Settles O48: the first two steps of a refresh are all of a dark one. -/
theorem darkRefresh : Obligations.DarkRefresh := by
  intro s i j hs hc hi hj hdark
  obtain ⟨u, hrun, hu, -, hlit, hcu, hhist, hlat⟩ := runs_select_off hs hc hi hj
  rw [hdark] at hlit hcu
  exact ⟨hrun.performed, u, hrun.ends, hcu, hlat, hu.dark_of_unlit hcu hlit, hhist⟩

/-- The port writes of the run `is` from `s` are the first of `ws`, one for each step. -/
def WritesEachStep (is : List Input) (s : State) (ws : List Event) : Prop :=
  ∀ u, runWith is s = .next u →
    ∃ new, u.history = s.history ++ new ∧ new.filter Event.isPortWrite = ws.take is.length

theorem WritesEachStep.nil (s : State) (ws : List Event) : WritesEachStep [] s ws := by
  rintro u ⟨⟩
  exact ⟨[], by simp, by simp⟩

/-- A step's own port writes come before those of the rest of the run. -/
theorem WritesEachStep.cons {i : Input} {is : List Input} {op : Instr} {s t : State} {new w ws ws' : List Event}
    (h : Performs i op s t) (hhist : t.history = s.history ++ new) (hw : new.filter Event.isPortWrite = w)
    (hrest : WritesEachStep is t ws) (htake : ws'.take (is.length + 1) = w ++ ws.take is.length) :
    WritesEachStep (i :: is) s ws' := by
  intro u hrun
  obtain ⟨new', hu, hnew'⟩ := hrest u (h.runWith_cons hrun)
  refine ⟨new ++ new', ?_, ?_⟩
  · rw [hu, hhist, List.append_assoc]
  · rw [List.filter_append, hw, hnew', List.length_cons, htake]

/-- The port writes of a refresh, in order. -/
theorem portWrites_refreshEvents (c : Config) (p : Fin 8) (lit : Bool) :
    (refreshEvents c p lit).filter Event.isPortWrite =
      .dirWrite offVec :: if lit then [.latWrite (c.lvlVec p), .dirWrite (c.enVec p)] else [] := by
  cases lit <;> rfl

section
variable {s : State} {is : List Input} (hs : Inv s) (hq : Quiet is)
include hs hq

/-- The step after a poll, a mask step or a selection, writes nothing. -/
theorem writes_after_poll (hc : s.ctrlState = sSchStep ∨ s.ctrlState = sDrvSel) (hlen : is.length ≤ 1) :
    WritesEachStep is s [] := by
  match is, hlen with
  | [], _ => exact .nil s _
  | [i], _ =>
    have hi := hq i (by simp)
    obtain hc | hc := hc
    · obtain ⟨t, ht⟩ := hs.exists_performs_of_ctrl (op := .schStep) hi (by rw [hc]; rfl)
      exact .cons ht (by rw [ht.schStep, List.append_nil]) rfl (.nil t []) rfl
    · obtain ⟨t, ht⟩ := hs.exists_performs_of_ctrl (op := .drvSel) hi (by rw [hc]; rfl)
      obtain ⟨-, -, -, -, hhist⟩ := ht.drvSel
      exact .cons ht (by rw [hhist, List.append_nil]) rfl (.nil t []) rfl

/-- A poll and the step after it write nothing. -/
theorem writes_from_poll (hc : s.ctrlState = sSchPoll) (hlen : is.length ≤ 2) : WritesEachStep is s [] := by
  match is, hlen with
  | [], _ => exact .nil s _
  | i :: is, hlen =>
    obtain ⟨hi, his⟩ := List.forall_mem_cons.1 hq
    obtain ⟨t, ht⟩ := hs.exists_performs_of_ctrl (op := .schPoll) hi (by rw [hc]; rfl)
    obtain ⟨hhist, hct⟩ := ht.schPoll
    have hct' : t.ctrlState = sSchStep ∨ t.ctrlState = sDrvSel := by rw [hct]; split <;> simp
    exact .cons ht hhist (w := []) rfl (writes_after_poll (ht.inv hs) his hct' (Nat.le_of_succ_le_succ hlen)) (by simp)

/-- From `DRV.EN` the one port write is the enabling of the pair. -/
theorem writes_from_enable (hc : s.ctrlState = sDrvEn) (hlen : is.length ≤ 1) :
    WritesEachStep is s [.dirWrite (s.board.config.enVec s.phase)] := by
  match is, hlen with
  | [], _ => exact .nil s _
  | [i], _ =>
    obtain ⟨t, ht⟩ := hs.exists_performs_of_ctrl (op := .drvEn) (hq i (by simp)) (by rw [hc]; rfl)
    exact .cons ht (ht.drvEn hs).2 rfl (.nil t []) rfl

/-- From `DRV.LVL` the port writes are the levels and the enabling of the pair. -/
theorem writes_from_level (hc : s.ctrlState = sDrvLvl) (hlen : is.length ≤ 2) :
    WritesEachStep is s
      [.latWrite (s.board.config.lvlVec s.phase), .dirWrite (s.board.config.enVec s.phase)] := by
  match is, hlen with
  | [], _ => exact .nil s _
  | i :: is, hlen =>
    obtain ⟨hi, his⟩ := List.forall_mem_cons.1 hq
    obtain ⟨t, ht⟩ := hs.exists_performs_of_ctrl (op := .drvLvl) hi (by rw [hc]; rfl)
    obtain ⟨hct, hhist⟩ := ht.drvLvl
    have hrest := writes_from_enable (ht.inv hs) his hct (Nat.le_of_succ_le_succ hlen)
    rw [ht.board_eq, ht.phase_eq nofun nofun] at hrest
    exact .cons ht hhist rfl hrest rfl

/-- From `DRV.OFF` the port writes are those of the refresh whose phase is selected. -/
theorem writes_from_off (hc : s.ctrlState = sDrvOff) (hlen : is.length ≤ 3) :
    WritesEachStep is s ((refreshEvents s.board.config s.phase s.selLit).filter Event.isPortWrite) := by
  match is, hlen with
  | [], _ => exact .nil s _
  | i :: is, hlen =>
    obtain ⟨hi, his⟩ := List.forall_mem_cons.1 hq
    have hlen' : is.length ≤ 2 := Nat.le_of_succ_le_succ hlen
    obtain ⟨t, ht⟩ := hs.exists_performs_of_ctrl (op := .drvOff) hi (by rw [hc]; rfl)
    obtain ⟨hct, hhist⟩ := ht.drvOff hs
    cases hlit : s.selLit with
    | false =>
      rw [hlit, if_neg Bool.false_ne_true] at hct
      have hrest := writes_from_poll (ht.inv hs) his hct hlen'
      exact .cons ht hhist (w := [.dirWrite offVec]) rfl hrest (by simp [portWrites_refreshEvents])
    | true =>
      rw [hlit, if_pos rfl] at hct
      have hrest := writes_from_level (ht.inv hs) his hct hlen'
      rw [ht.board_eq, ht.phase_eq nofun nofun] at hrest
      exact .cons ht hhist (w := [.dirWrite offVec]) rfl hrest (by simp [portWrites_refreshEvents])

/-- The port writes of the first steps of a refresh are the first of the refresh's events, none at the selection. -/
theorem portWrites_from_select (hc : s.ctrlState = sDrvSel) (hlen : is.length ≤ 4) {u : State}
    (hrun : runWith is s = .next u) :
    (u.history.drop s.history.length).filter Event.isPortWrite =
      ((refreshEvents s.board.config (servedPhase s.phaseCnt).toFin
        (s.maskBitOf (servedPhase s.phaseCnt))).filter Event.isPortWrite).take (is.length - 1) := by
  match is, hlen with
  | [], _ => cases hrun; simp
  | i :: is, hlen =>
    obtain ⟨hi, his⟩ := List.forall_mem_cons.1 hq
    obtain ⟨t, ht⟩ := hs.exists_performs_of_ctrl (op := .drvSel) hi (by rw [hc]; rfl)
    obtain ⟨-, hphase, hlit, hct, hhist⟩ := ht.drvSel
    obtain ⟨new, hnew, hwrites⟩ :=
      writes_from_off (ht.inv hs) his hct (Nat.le_of_succ_le_succ hlen) u (ht.runWith_cons hrun)
    rw [hnew, hhist, List.drop_left, hwrites, ht.board_eq, State.phase, hphase, hlit, List.length_cons,
      Nat.add_sub_cancel]

end

/-- Settles O49: the counter is back at the phase it was to serve, on the same board and mask, and that decides the port
writes. -/
theorem byteIdenticalPeriod : Obligations.ByteIdenticalPeriod := by
  intro s t is hs hc hq hrun hct hlen hno
  have hserved : servedPhase t.phaseCnt = servedPhase s.phaseCnt := by
    have hcnt := phaseCnt_of_runWith hs hq hrun
    rw [hlen] at hcnt
    rw [hcnt, servedPhase_iterate_eight _ hs.phaseCntLegal]
  have hboard : t.board = s.board := board_of_runWith hrun
  have hmask : t.mask = s.mask := runWith_frame (f := State.mask) (p := (· ≠ .schStep))
    (fun i op s t hp hreset hstep => hp.mask_eq hreset hstep) hs hq (fun op hop h => hno (h ▸ hop)) hrun
  have hlit : t.maskBitOf (servedPhase t.phaseCnt) = s.maskBitOf (servedPhase s.phaseCnt) := by
    rw [State.maskBitOf, State.maskBitOf, hserved, hboard, hmask]
  have ht : Inv t := hs.runWith hrun
  refine ⟨hserved, fun js ks u v hjs hks hjk hj hu hv => ?_⟩
  rw [portWrites_from_select hs hjs hc hj hu, portWrites_from_select ht hks hct (hjk ▸ hj) hv, hlit, hserved, hboard,
    hjk]

end Sys2Proof.Machine
end

section
/-!
PROOFS. The step of the mask (spec/41_scheduler.md R160, R161, R162, R165) as a function of bytes: its form under each kind, where the
two kinds agree, and its walk over the single bits.
-/

namespace Sys2Proof

section
variable (c : Config) (m : Byte)

theorem Config.maskShift_of_rotate (h : c.maskStepKind = .rotate) : c.maskShift m = (m <<< 1) ||| (m >>> 7) := by
  rw [Config.maskShift, h]

theorem Config.maskShift_of_shiftFill (h : c.maskStepKind = .shiftFill) : c.maskShift m = m <<< 1 := by
  rw [Config.maskShift, h]

/-- The all-zero result is replaced, so no step leaves a dark mask (R161). -/
theorem Config.maskStep_ne_zero : c.maskStep m ≠ 0#8 := by
  unfold Config.maskStep
  split
  case isTrue => decide
  case isFalse h => exact h

theorem Config.maskStep_zero : c.maskStep 0#8 = 1#8 := by
  unfold Config.maskStep Config.maskShift
  cases c.maskStepKind <;> rfl

/-- One lit bit moves up by one, and from bit 7 to bit 0, under either kind (R162). -/
theorem Config.maskStep_bit (j : Nat) : c.maskStep (1#8 <<< (j % 8)) = 1#8 <<< ((j + 1) % 8) := by
  have hbit : ∀ i : Fin 8, c.maskStep (1#8 <<< i.val) = 1#8 <<< ((i.val + 1) % 8) := by
    unfold Config.maskStep Config.maskShift
    cases c.maskStepKind <;> decide
  rw [hbit ⟨j % 8, Nat.mod_lt j (by decide)⟩, Nat.mod_add_mod]

/-- From the first step of a dark mask on, the masks are the single bits in order (R162). -/
theorem Config.maskStep_iterate (j : Nat) : c.maskStep^[j] (c.maskStep 0#8) = 1#8 <<< (j % 8) := by
  induction j with
  | zero => exact c.maskStep_zero
  | succ j ih => rw [Function.iterate_succ_apply', ih, c.maskStep_bit]

end

/-- Settles O21: the shift of each kind, under the replacement of the all-zero result. -/
theorem maskStepFormula : Obligations.MaskStepFormula := fun c m =>
  ⟨fun h => by rw [Config.maskStep, c.maskShift_of_rotate m h],
    fun h => by rw [Config.maskStep, c.maskShift_of_shiftFill m h]⟩

section
variable (m : Byte)

/-- The rotation carries bit 7 into bit 0. -/
theorem shiftRight_seven : m >>> 7 = if m.getLsbD 7 then 1#8 else 0#8 := by
  rw [BitVec.getLsbD, Nat.testBit_eq_decide_div_mod_eq]
  split <;> rename_i h <;> simp only [decide_eq_true_eq] at h <;> bv_omega

/-- The shift is all zero when no bit below bit 7 is set. -/
theorem shiftLeft_one_eq_zero_iff : m <<< 1 = 0#8 ↔ m &&& 0x7F#8 = 0#8 := by
  have hlow : (m &&& 0x7F#8).toNat = m.toNat % 128 := Nat.and_two_pow_sub_one_eq_mod m.toNat 7
  rw [← BitVec.toNat_inj, ← BitVec.toNat_inj, hlow, BitVec.toNat_shiftLeft, Nat.shiftLeft_eq, BitVec.toNat_ofNat]
  omega

/-- A carry into bit 0 shows, since a shift leaves that bit clear. -/
theorem shiftLeft_one_or_one_ne : (m <<< 1) ||| 1#8 ≠ m <<< 1 := by
  intro h
  have hbit : ((m <<< 1) ||| 1#8).getLsbD 0 = (m <<< 1).getLsbD 0 := by rw [h]
  simp at hbit

end

section
variable {c d : Config} {m : Byte} (hc : c.maskStepKind = .rotate) (hd : d.maskStepKind = .shiftFill)
include hd

/-- With a bit below bit 7 set, nothing is replaced. -/
theorem Config.maskStep_of_shiftFill_of_low (hlow : m &&& 0x7F#8 ≠ 0#8) : d.maskStep m = m <<< 1 := by
  rw [Config.maskStep, d.maskShift_of_shiftFill m hd, if_neg (mt (shiftLeft_one_eq_zero_iff m).1 hlow)]

include hc

/-- The rotation is the shift with bit 7 carried into bit 0, and the carry shows only where the shift leaves some bit set: a mask
of bit 7 alone goes to bit 0 under either kind (R165). -/
theorem Config.maskStep_rotate_eq :
    c.maskStep m = if m.getLsbD 7 = true ∧ m &&& 0x7F#8 ≠ 0#8 then (m <<< 1) ||| 1#8 else d.maskStep m := by
  rw [Config.maskStep, Config.maskStep, c.maskShift_of_rotate m hc, d.maskShift_of_shiftFill m hd, shiftRight_seven]
  by_cases hshows : m.getLsbD 7 = true ∧ m &&& 0x7F#8 ≠ 0#8
  · have hcarry : (m <<< 1) ||| 1#8 ≠ 0#8 := by simp
    rw [if_pos hshows, if_pos hshows.1, if_neg hcarry]
  · rw [if_neg hshows]
    by_cases hseven : m.getLsbD 7 = true
    · have hshift : m <<< 1 = 0#8 :=
        (shiftLeft_one_eq_zero_iff m).2 (Decidable.not_not.1 fun hlow => hshows ⟨hseven, hlow⟩)
      rw [if_pos hseven, hshift]
      rfl
    · rw [if_neg hseven, BitVec.or_zero]

end

end Sys2Proof

namespace Sys2Proof.Machine

/-- A mask of one bit, or none, has no bit beside bit 7. -/
theorem Inv.mask_seven_alone {s : State} (h : Inv s) :
    ¬ (s.mask.getLsbD 7 = true ∧ s.mask &&& 0x7F#8 ≠ 0#8) := by
  have hbit : ∀ i : Fin 8, ¬ ((1#8 <<< i.val).getLsbD 7 = true ∧ (1#8 <<< i.val) &&& 0x7F#8 ≠ 0#8) := by decide
  obtain hdark | ⟨i, hi⟩ := h.maskReached
  · rw [hdark]; decide
  · rw [hi]; exact hbit i

/-- Settles O23: the rotation is the shift but for a carry that shows, and the invariant's masks have none. -/
theorem maskKindsAgreeWhereReachable : Obligations.MaskKindsAgreeWhereReachable := by
  refine ⟨fun c d m hc hd => ⟨?agree, fun hm => ?differ, ?dark, ?bit⟩, fun _ h => h.mask_seven_alone⟩
  case agree =>
    rw [Config.maskStep_rotate_eq hc hd]
    split
    case isTrue hm =>
      rw [Config.maskStep_of_shiftFill_of_low hd hm.2]
      exact iff_of_false (shiftLeft_one_or_one_ne m) (not_not_intro hm)
    case isFalse hm => exact iff_of_true rfl hm
  case differ =>
    rw [Config.maskStep_rotate_eq hc hd, if_pos hm]
    exact ⟨rfl, Config.maskStep_of_shiftFill_of_low hd hm.2⟩
  case dark =>
    rintro (rfl | rfl)
    · exact ⟨c.maskStep_zero, d.maskStep_zero⟩
    · exact ⟨c.maskStep_bit 7, d.maskStep_bit 7⟩
  case bit =>
    rintro i rfl
    have hmod : i.val % 8 = i.val ∧ (i.val + 1) % 8 = i.val + 1 := by omega
    have hc' := c.maskStep_bit i.val
    have hd' := d.maskStep_bit i.val
    rw [hmod.1, hmod.2] at hc' hd'
    exact ⟨hc', hd'⟩

end Sys2Proof.Machine
end

section
/-!
PROOFS. The result of each scheduler operation (spec/41_scheduler.md R150, R154, R157): the next state as an update of the state
before it, or the fault on a counter that is spent.
-/

namespace Sys2Proof.Machine

/-- A toggle, on the timer's own bit (R155). -/
theorem State.toggled_iff (s : State) : s.toggled = true ↔ s.tmr.testBit s.board.config.timer.msbBit ≠ s.lastMsb :=
  bne_iff_ne

/-- No toggle, on the timer's own bit (R155). -/
theorem State.toggled_eq_false_iff (s : State) :
    s.toggled = false ↔ s.tmr.testBit s.board.config.timer.msbBit = s.lastMsb :=
  bne_eq_false_iff_eq

/-- The settle count is checked before the sample (R206). -/
theorem exec_setPoll_spent {s : State} (h : s.settleCnt = 0#8) : exec .setPoll s = .fault (.settleCounterZero s) := if_pos h

/-- The countdown is checked before the sample (R206). -/
theorem exec_schPoll_spent {s : State} (h : s.toggleCnt = 0#8) : exec .schPoll s = .fault (.toggleCounterZero s) := if_pos h

/-- Settles O18: the fault, and the two effects of `SET.POLL`. -/
theorem setPollResult : Obligations.SetPollResult :=
  ⟨fun _ => exec_setPoll_spent,
    fun s alive htog => exec_of_effect (.settleToggle s alive (s.toggled_iff.2 htog)),
    fun s alive hstill => exec_of_effect (.settleStill s alive (s.toggled_eq_false_iff.2 hstill))⟩

/-- Settles O19: the fault, and the two effects of `SCH.POLL`. -/
theorem schPollResult : Obligations.SchPollResult :=
  ⟨fun _ => exec_schPoll_spent,
    fun s alive htog => exec_of_effect (.pollToggle s alive (s.toggled_iff.2 htog)),
    fun s alive hstill => exec_of_effect (.pollStill s alive (s.toggled_eq_false_iff.2 hstill))⟩

/-- Settles O20: the one effect of `SCH.STEP`. -/
theorem schStepResult : Obligations.SchStepResult := fun s => exec_of_effect (.maskStep s)

end Sys2Proof.Machine
end

section
/-!
PROOFS. The masks of a run without reset (spec/41_scheduler.md R161, R162): `SCH.STEP` alone steps the mask, so the masks are those of
the step's own sequence, whose length is all that the samples decide.
-/

namespace Sys2Proof.Machine

/-- `SCH.STEP` steps the mask and reloads the countdown (R157). -/
theorem Performs.schStep_registers {i : Input} {s t : State} (h : Performs i .schStep s t) :
    t.mask = s.board.config.maskStep s.mask ∧ t.toggleCnt = s.board.config.stepDelay := by
  obtain ⟨u, he, rfl⟩ := h.effect
  cases he
  exact ⟨rfl, rfl⟩

/-- Without reset a lit mask stays lit (R161). -/
theorem Performs.mask_ne_zero {i : Input} {op : Instr} {s t : State} (h : Performs i op s t) (hreset : op ≠ .reset)
    (hs : s.mask ≠ 0#8) : t.mask ≠ 0#8 := by
  by_cases hstep : op = .schStep
  · subst hstep
    rw [h.schStep_registers.1]
    exact Config.maskStep_ne_zero _ _
  · rw [h.mask_eq hreset hstep]
    exact hs

/-- A run that completes performs an operation in its first step. -/
theorem runWith_cons_performs {i : Input} {is : List Input} {s t : State} (h : runWith (i :: is) s = .next t) :
    ∃ op u, Performs i op s u ∧ runWith is u = .next t := by
  obtain ⟨u, hstep, hrest⟩ := runWith_cons_next h
  obtain ⟨op, -, hd, -⟩ := step_eq_next hstep
  exact ⟨op, u, ⟨hd, hstep⟩, hrest⟩

/-- Every run without reset keeps a lit mask lit (R161). -/
theorem mask_ne_zero_of_runWith {is : List Input} {s t : State} (hq : Quiet is) (hs : s.mask ≠ 0#8)
    (hrun : runWith is s = .next t) : t.mask ≠ 0#8 := by
  induction is generalizing s with
  | nil => cases hrun; exact hs
  | cons i is ih =>
    obtain ⟨hi, his⟩ := List.forall_mem_cons.1 hq
    obtain ⟨op, u, hp, hrest⟩ := runWith_cons_performs hrun
    exact ih his (hp.mask_ne_zero (hp.ne_reset hi) hs) hrest

/-- Settles O22: the mask that `SCH.STEP` leaves is a step's, and a run keeps it lit. -/
theorem maskNeverDarkAfterStep : Obligations.MaskNeverDarkAfterStep := by
  refine ⟨Config.maskStep_ne_zero, fun s t hexec => ?_, fun _ _ _ => mask_ne_zero_of_runWith⟩
  cases exec_effect hexec
  exact Config.maskStep_ne_zero _ _

/-- The masks a run without reset steps to are those of the step's sequence. -/
theorem collect_mask {is : List Input} {s : State} (hs : Inv s) (hq : Quiet is) :
    collect .schStep State.mask is s =
      List.iterate s.board.config.maskStep (s.board.config.maskStep s.mask)
        (collect .schStep State.mask is s).length := by
  induction is, s, hs, hq using quiet_run_induction with
  | nil s => rfl
  | cons i is op s t hs hq hp hreset ih =>
    rw [collect_cons_of_step hp.decoded hp.stepped]
    by_cases hstep : op = .schStep
    · subst hstep
      rw [if_pos rfl, List.length_cons, List.iterate, ← hp.schStep_registers.1, ← hp.board_eq, ← ih]
    · rw [if_neg hstep, ← hp.board_eq, ← hp.mask_eq hreset hstep, ← ih]

/-- The mask a run without reset leaves is as many steps on. -/
theorem mask_of_runWith {is : List Input} {s u : State} (hs : Inv s) (hq : Quiet is)
    (hrun : runWith is s = .next u) :
    u.mask = s.board.config.maskStep^[(collect .schStep State.mask is s).length] s.mask := by
  induction is, s, hs, hq using quiet_run_induction with
  | nil s => cases hrun; rfl
  | cons i is op s t hs hq hp hreset ih =>
    rw [ih (hp.runWith_cons hrun), collect_cons_of_step hp.decoded hp.stepped, hp.board_eq]
    by_cases hstep : op = .schStep
    · subst hstep
      rw [if_pos rfl, List.length_cons, Function.iterate_succ_apply, hp.schStep_registers.1]
    · rw [if_neg hstep, hp.mask_eq hreset hstep]

/-- Settles O42: from a reset the mask is dark, and its steps walk over the single bits. -/
theorem maskWalksOneBit : Obligations.MaskWalksOneBit := by
  intro s is hs hc hq
  obtain ⟨hdark, -⟩ := hs.settleFresh hc
  refine ⟨?_, fun t hrun hnone => ?_⟩
  · have hmasks := collect_mask hs hq
    rw [hdark, ← List.range_map_iterate] at hmasks
    simpa only [Config.maskStep_iterate] using hmasks
  · rw [mask_of_runWith hs hq hrun, hnone, hdark]
    rfl

end Sys2Proof.Machine
end

section
/-!
PROOFS. The pace of the mask steps (spec/41_scheduler.md R154, R157, R158): the countdown and the toggles observed balance.
-/

namespace Sys2Proof.Machine

section
variable {i : Input} {op : Instr} {s t : State}

/-- The countdown a poll leaves is one less for a toggle (R154). -/
theorem Performs.schPoll_toggleCnt (h : Performs i .schPoll s t) :
    t.toggleCnt.toNat + (if (s.withInputs i.rst i.tmr).toggled then 1 else 0) = s.toggleCnt.toNat := by
  obtain ⟨u, he, rfl⟩ := h.effect
  cases he with
  | pollToggle _ alive toggle =>
    rw [if_pos toggle]
    simp at alive ⊢
    bv_omega
  | pollStill _ alive still => simp [still]

/-- A step's toggle at `SCH.POLL` and the countdown it leaves make up the countdown it found, plus the delay if it reloaded it: a
reload finds the countdown at 0. -/
theorem Performs.toggleCnt_balance (h : Performs i op s t) (hreset : op ≠ .reset) (hs : Inv s) :
    t.toggleCnt.toNat + (if op = .schPoll ∧ (s.withInputs i.rst i.tmr).toggled then 1 else 0) =
      s.toggleCnt.toNat + if op = .schStep then s.board.config.stepDelay.toNat else 0 := by
  by_cases hpoll : op = .schPoll
  · subst hpoll
    simpa using h.schPoll_toggleCnt
  · by_cases hstep : op = .schStep
    · subst hstep
      have hspent : s.toggleCnt = 0#8 := hs.toggleExpires.1 (ctrlState_of_decode h.decoded nofun)
      simp [hspent, h.schStep_registers.2]
    · simp [hpoll, hstep, h.toggleCnt_eq hreset hstep hpoll]

end

/-- Over a run without reset, the toggles observed and the countdown left make up the countdown found and one delay for each
mask step. -/
theorem toggles_balance {is : List Input} {s t : State} (hs : Inv s) (hq : Quiet is) (hrun : runWith is s = .next t) :
    t.toggleCnt.toNat + togglesAt .schPoll is s =
      s.toggleCnt.toNat + (collect .schStep State.mask is s).length * s.board.config.stepDelay.toNat := by
  induction is, s, hs, hq using quiet_run_induction with
  | nil s => cases hrun; simp [togglesAt, collect]
  | cons i is op s u hs hq hp hreset ih =>
    have hrest := ih (hp.runWith_cons hrun)
    have hfirst := hp.toggleCnt_balance hreset hs
    rw [hp.board_eq] at hrest
    rw [togglesAt_cons_of_step hp.decoded hp.stepped, collect_cons_of_step hp.decoded hp.stepped]
    by_cases hstep : op = .schStep
    · rw [if_pos hstep] at hfirst ⊢
      rw [List.length_cons, Nat.succ_mul]
      omega
    · rw [if_neg hstep] at hfirst ⊢
      omega

/-- Settles O43: from a reset the countdown found is the delay, and the countdown left is 0 in `S_SCH_STEP` alone. -/
theorem maskStepsEveryStepDelay : Obligations.MaskStepsEveryStepDelay := by
  intro s t is hs hc hq hrun
  obtain ⟨-, -, -, hdelay⟩ := hs.settleFresh hc
  have ht : Inv t := hs.runWith hrun
  have hbound : t.toggleCnt.toNat ≤ s.board.config.stepDelay.toNat := board_of_runWith hrun ▸ ht.toggleBound
  have hbalance := toggles_balance hs hq hrun
  rw [hdelay] at hbalance
  rw [Nat.succ_mul]
  refine ⟨fun hstep => ?_, fun hstep => ?_⟩
  · rw [ht.toggleExpires.1 hstep, BitVec.toNat_zero] at hbalance
    omega
  · have hrunning : t.toggleCnt.toNat ≠ 0 := fun h => ht.toggleCnt_ne_zero hstep (BitVec.eq_of_toNat_eq h)
    omega

end Sys2Proof.Machine
end

section
/-!
PROOFS. The block before its first `DRV.SEL` after a reset (spec/41_scheduler.md R150, R151): its operations are the samples of the
settle wait, which touch no port register.
-/

namespace Sys2Proof.Machine

/-- `SET.POLL` records its sample, and goes on to the first selection when the sample shows the last toggle of the wait (R150). -/
theorem Performs.setPoll {i : Input} {s t : State} (h : Performs i .setPoll s t) :
    t.history = s.history ++ [.tmrSample (i.bit s.board.config)] ∧
      t.ctrlState = if i.bit s.board.config ≠ s.lastMsb ∧ s.settleCnt = 1#8 then sDrvSel else sSettle := by
  have hlast : s.settleCnt - 1#8 = 0#8 ↔ s.settleCnt = 1#8 := by bv_omega
  obtain ⟨u, he, rfl⟩ := h.effect
  cases he with
  | settleToggle _ alive toggle =>
    have hbit : s.board.config.timer.bit i.tmr ≠ s.lastMsb := by simpa [State.toggled] using toggle
    simp [hbit, hlast, Input.bit]
  | settleStill _ alive still =>
    have hbit : s.board.config.timer.bit i.tmr = s.lastMsb := by simpa [State.toggled] using still
    simp [hbit, Input.bit]

/-- Up to the first selection a run without reset only samples. -/
theorem opsOf_before_select {is : List Input} {s : State} (hs : Inv s) (hq : Quiet is)
    (hc : s.ctrlState = sSettle ∨ s.ctrlState = sDrvSel) (hno : .drvSel ∉ opsOf is s) :
    ∀ op ∈ opsOf is s, op = .setPoll := by
  induction is, s, hs, hq using quiet_run_induction with
  | nil s => exact nofun
  | cons i is op s t hs hq hp hreset ih =>
    have hd : decodeCtrl s.ctrlState = .ok op :=
      (decode_withInputs_quiet (List.forall_mem_cons.1 hq).1).symm.trans hp.decoded
    rw [opsOf_cons_of_step hp.decoded hp.stepped] at hno ⊢
    obtain ⟨hfirst, hrest⟩ := not_or.1 (mt List.mem_cons.2 hno)
    obtain hc | hc := hc
    · rw [hc] at hd
      cases hd
      have ht : t.ctrlState = sSettle ∨ t.ctrlState = sDrvSel := by
        rw [hp.setPoll.2]
        split <;> simp
      exact List.forall_mem_cons.2 ⟨rfl, ih ht hrest⟩
    · rw [hc] at hd
      cases hd
      exact absurd rfl hfirst

/-- A run of the settle wait's samples records them and nothing else. -/
theorem history_of_samples {is : List Input} {s t : State} (hs : Inv s) (hq : Quiet is)
    (hops : ∀ op ∈ opsOf is s, op = .setPoll) (hrun : runWith is s = .next t) :
    t.history = s.history ++ (is.map (Input.bit s.board.config)).map Event.tmrSample := by
  induction is, s, hs, hq using quiet_run_induction with
  | nil s => cases hrun; simp
  | cons i is op s u hs hq hp hreset ih =>
    rw [opsOf_cons_of_step hp.decoded hp.stepped] at hops
    obtain ⟨rfl, hrest⟩ := List.forall_mem_cons.1 hops
    rw [ih hrest (hp.runWith_cons hrun), hp.setPoll.1, hp.board_eq]
    simp

/-- `SET.POLL` leaves both port registers as they were. -/
theorem Performs.setPoll_port {i : Input} {s t : State} (h : Performs i .setPoll s t) :
    (t.dir, t.lat) = (s.dir, s.lat) := by
  obtain ⟨u, he, rfl⟩ := h.effect
  exact Prod.ext (he.direction_eq nofun nofun nofun).2 (he.lat_eq nofun nofun)

/-- Settles O45: the samples leave the port as the settle wait has it, all inputs. -/
theorem noPortWriteBeforeFirstRefresh : Obligations.NoPortWriteBeforeFirstRefresh := by
  intro s t is hs hc hq hrun hno
  have hops := opsOf_before_select hs hq (.inl hc) hno
  have hport : (t.dir, t.lat) = (s.dir, s.lat) :=
    runWith_frame (f := fun u => (u.dir, u.lat)) (fun i op s t hp _ hpoll => (hpoll ▸ hp).setPoll_port) hs hq hops hrun
  obtain ⟨hdir, hlat⟩ := Prod.ext_iff.1 hport
  have hoff : t.dir = offVec := hdir.trans (hs.shadowMirrors.trans (hs.allInputs (.inl hc)))
  exact ⟨hoff, hlat, dark_of_dir hoff, _, history_of_samples hs hq hops hrun⟩

end Sys2Proof.Machine
end

section
/-!
PROOFS. The successor of each controller state (spec/42_sequencer.md R180), and the fault of the reserved one
(spec/60_exceptions.md R203).
-/

namespace Sys2Proof.Machine

/-- `RST` decides whether a step is `RESET` (R96). -/
theorem rst_iff_of_decode {s : State} {i : Instr} (h : decode s.opw = .ok i) : s.rst = true ↔ i = .reset := by
  have table : ∀ (r : Bool) (c : CtrlCode), decode (opwOf r c) = .ok i → (r = true ↔ i = .reset) := by
    cases i <;> decide
  exact table _ _ h

/-- The reserved state names no operation, so the step faults (R203). -/
theorem step_reserved {s : State} (hc : s.ctrlState = 0b111#3) (hrst : s.rst = false) :
    step s = .fault (.reservedCtrlState s) := by
  have hd : decode s.opw = .error .reservedCtrlState := by rw [State.opw, hrst, hc]; exact decode_reserved
  rw [step, hd]

/-- Settles O13: `RST` leads to `S_SETTLE`; otherwise the state found names the operation, and each effect of the operation goes
to its row's successor. -/
theorem successorTable : Obligations.SuccessorTable := by
  refine ⟨fun s t hstep => ?row, fun s => step_reserved⟩
  case row =>
    obtain ⟨i, u, hd, hexec, rfl⟩ := step_eq_next hstep
    have he : Effect i s u := exec_effect hexec
    by_cases hreset : i = .reset
    · subst hreset
      rw [if_pos ((rst_iff_of_decode hd).2 rfl)]
      cases he
      rfl
    · rw [if_neg (mt (rst_iff_of_decode hd).1 hreset), ctrlState_of_decode hd hreset]
      cases he with
      | settleToggle _ _ toggle => simp [encode, opwCtrl, s.toggled_iff.1 toggle]
      | settleStill _ _ still => simp [encode, opwCtrl, s.toggled_eq_false_iff.1 still]
      | select => rfl
      | off => rfl
      | level => rfl
      | enable => rfl
      | pollToggle _ _ toggle => simp [encode, opwCtrl, s.toggled_iff.1 toggle]
      | pollStill _ _ still => simp [encode, opwCtrl, s.toggled_eq_false_iff.1 still]
      | maskStep => rfl
      | reset => exact absurd rfl hreset

end Sys2Proof.Machine
end

section
/-!
PROOFS. What a build accepts (spec/60_exceptions.md R204): arguments in range are the fields of the configuration they give, so each
check of the configuration is the same check of the arguments.
-/

namespace Sys2Proof

/-- The arguments' ranges (spec/00_scope.md R11, R14, R15). -/
structure ConfigArgs.InRange (a : ConfigArgs) : Prop where
  lines : ∀ k, a.sharedLineBit k < 8
  entries : ∀ p, a.maskBit p < 8 ∧ a.high p < 4 ∧ a.low p < 4
  stepDelay : 1 ≤ a.stepDelay ∧ a.stepDelay ≤ 255

/-- Entry p of the configuration is made of the arguments for p. -/
theorem ConfigArgs.config_entry (a : ConfigArgs) (p : Fin 8) : a.config.entry p = a.entry p := by
  fin_cases p <;> rfl

/-- Some block is built exactly from the arguments in range whose configuration passes the checks. -/
theorem ConfigArgs.exists_build_iff {a : ConfigArgs} :
    (∃ b, a.build = .ok b) ↔ a.InRange ∧ a.config.WellFormed := by
  constructor
  · rintro ⟨b, hb⟩
    obtain ⟨hlines, hentries, hpos, hle, hconfig⟩ := ConfigArgs.build_eq_ok.1 hb
    exact ⟨⟨hlines, hentries, hpos, hle⟩, hconfig ▸ b.wf⟩
  · rintro ⟨⟨hlines, hentries, hpos, hle⟩, hwf⟩
    exact ⟨⟨a.config, hwf⟩, ConfigArgs.build_eq_ok.2 ⟨hlines, hentries, hpos, hle, rfl⟩⟩

section
variable {a : ConfigArgs} (h : a.InRange)
include h

theorem ConfigArgs.InRange.line_val (k : Fin 4) : a.config.sharedLineBit[k].val = a.sharedLineBit k := by
  rw [← Nat.mod_eq_of_lt (h.lines k)]
  fin_cases k <;> rfl

theorem ConfigArgs.InRange.maskBit_val (p : Fin 8) : (a.config.entry p).maskBit.val = a.maskBit p := by
  rw [a.config_entry]
  exact Nat.mod_eq_of_lt (h.entries p).1

theorem ConfigArgs.InRange.high_val (p : Fin 8) : (a.config.entry p).high.val = a.high p := by
  rw [a.config_entry]
  exact Nat.mod_eq_of_lt (h.entries p).2.1

theorem ConfigArgs.InRange.low_val (p : Fin 8) : (a.config.entry p).low.val = a.low p := by
  rw [a.config_entry]
  exact Nat.mod_eq_of_lt (h.entries p).2.2

theorem ConfigArgs.InRange.stepDelay_toNat : a.config.stepDelay.toNat = a.stepDelay :=
  Nat.mod_eq_of_lt (Nat.lt_succ_of_le h.stepDelay.2)

/-- The distinct lines of R14, on the arguments. -/
theorem ConfigArgs.InRange.linesDistinct_iff :
    a.config.LinesDistinct ↔ ∀ j k, a.sharedLineBit j = a.sharedLineBit k → j = k :=
  forall₂_congr fun j k => by rw [Fin.ext_iff, h.line_val, h.line_val]

/-- WF1 on the arguments. -/
theorem ConfigArgs.InRange.highNotLow_iff : a.config.HighNotLow ↔ ∀ p, a.high p ≠ a.low p :=
  forall_congr' fun p => by rw [← h.high_val, ← h.low_val]; exact not_congr Fin.ext_iff

/-- WF2 on the arguments. -/
theorem ConfigArgs.InRange.maskBitsBijective_iff :
    a.config.MaskBitsBijective ↔
      (∀ p q, a.maskBit p = a.maskBit q → p = q) ∧ ∀ m, m < 8 → ∃ p, a.maskBit p = m := by
  refine and_congr (forall₂_congr fun p q => ?injective) (Fin.forall_iff.trans ?surjective)
  case injective => rw [← h.maskBit_val, ← h.maskBit_val, ← Fin.ext_iff]; rfl
  case surjective =>
    refine forall₂_congr fun m _ => exists_congr fun p => ?_
    rw [← h.maskBit_val, Fin.ext_iff]; rfl

/-- WF3 on the arguments. -/
theorem ConfigArgs.InRange.pairsDistinct_iff :
    a.config.PairsDistinct ↔ ∀ p q, a.high p = a.high q → a.low p = a.low q → p = q :=
  forall₂_congr fun p q => by
    rw [← h.high_val, ← h.high_val, ← h.low_val, ← h.low_val, ← Fin.ext_iff, ← Fin.ext_iff]; rfl

/-- A `STEP_DELAY` in range is not 0. -/
theorem ConfigArgs.InRange.stepDelayInRange : a.config.StepDelayInRange := by
  intro h0
  have hval := h.stepDelay_toNat
  rw [h0] at hval
  exact absurd h.stepDelay.1 (by simp [← hval])

/-- The checks of R204 together, on arguments in range. -/
theorem ConfigArgs.InRange.wellFormed_iff :
    a.config.WellFormed ↔
      (∀ j k, a.sharedLineBit j = a.sharedLineBit k → j = k) ∧ (∀ p, a.high p ≠ a.low p) ∧
        ((∀ p q, a.maskBit p = a.maskBit q → p = q) ∧ ∀ m, m < 8 → ∃ p, a.maskBit p = m) ∧
        ∀ p q, a.high p = a.high q → a.low p = a.low q → p = q := by
  rw [Config.WellFormed, h.linesDistinct_iff, h.highNotLow_iff, h.maskBitsBijective_iff, h.pairsDistinct_iff,
    and_iff_left h.stepDelayInRange]

end

/-- Settles O6: the checks of the configuration read on the arguments, and the fields of the configuration a build takes as it
is. -/
theorem buildAcceptsExactlyWellFormed : Obligations.BuildAcceptsExactlyWellFormed := by
  refine ⟨fun a => ConfigArgs.exists_build_iff.trans ⟨?checked, ?accepted⟩, fun a b hb => ?kept, fun c => ⟨?clamp, ?flag⟩⟩
  case checked =>
    rintro ⟨hrange, hwf⟩
    obtain ⟨hlines, hwf1, ⟨hinj, hsurj⟩, hwf3⟩ := hrange.wellFormed_iff.1 hwf
    exact ⟨hrange.lines, hlines, hrange.entries, hwf1, hinj, hsurj, hwf3, hrange.stepDelay⟩
  case accepted =>
    rintro ⟨hlt, hlines, hentries, hwf1, hinj, hsurj, hwf3, hdelay⟩
    have hrange : a.InRange := ⟨hlt, hentries, hdelay⟩
    exact ⟨hrange, hrange.wellFormed_iff.2 ⟨hlines, hwf1, ⟨hinj, hsurj⟩, hwf3⟩⟩
  case kept =>
    obtain ⟨hlines, hentries, hpos, hle, hconfig⟩ := ConfigArgs.build_eq_ok.1 hb
    have hrange : a.InRange := ⟨hlines, hentries, hpos, hle⟩
    rw [hconfig]
    exact ⟨hrange.line_val, fun p => ⟨hrange.maskBit_val p, hrange.high_val p, hrange.low_val p⟩,
      hrange.stepDelay_toNat, rfl, rfl, rfl, rfl⟩
  case clamp =>
    rw [c.settleToggles_toNat]
    omega
  case flag => exact decide_eq_true

end Sys2Proof
end

section
/-!
PROOFS. The timer's sampled bit at any width (spec/60_exceptions.md R211).
-/

namespace Sys2Proof

/-- At `TMR_MSB_BIT` 7 the sample is the high half of the low 8 bits. -/
theorem Timer.bit_iff_of_msbBit_seven {t : Timer} (h7 : t.msbBit.val = 7) (v : Nat) : t.bit v = true ↔ 128 ≤ v % 256 := by
  rw [Timer.bit, h7, Nat.testBit_eq_decide_div_mod_eq, decide_eq_true_iff]
  omega

/-- At `TMR_MSB_BIT` 7 a count toggles the sample exactly when it reaches a multiple of 128. -/
theorem Timer.bit_succ_ne_iff_of_msbBit_seven {t : Timer} (h7 : t.msbBit.val = 7) (v : Nat) :
    t.bit (v + 1) ≠ t.bit v ↔ (v + 1) % 128 = 0 := by
  rw [Ne, Bool.eq_iff_iff, t.bit_iff_of_msbBit_seven h7, t.bit_iff_of_msbBit_seven h7]
  omega

end Sys2Proof

namespace Sys2Proof.Machine

/-- Settles O52: the wrap at the counter's width does not reach the sampled bit, so the half-period of the low 8 bits is the
counter's at every width. -/
theorem timerBitOfAnyWidth : Obligations.TimerBitOfAnyWidth := by
  refine ⟨⟨rfl, rfl⟩, fun _ => rfl, fun t => ⟨t.wide, fun v _ h7 => ⟨Timer.bit_iff_of_msbBit_seven h7 v, ?_⟩⟩⟩
  rw [t.bit_cut]
  exact Timer.bit_succ_ne_iff_of_msbBit_seven h7 v

end Sys2Proof.Machine
end

section
/-!
PROOFS. The four faults and where they can be raised (spec/60_exceptions.md R200 to R203).
-/

namespace Sys2Proof.Machine

/-- `FaultCause i s f`: operation `i` finds `s` in the reserved value that `f` names (R201). The fourth reserved value,
`CTRL_STATE` 7, is found by the dispatch and by no operation. -/
inductive FaultCause : Instr → State → Fault → Prop where
  | settleSpent (s : State) (spent : s.settleCnt = 0#8) : FaultCause .setPoll s (.settleCounterZero s)
  | phaseReserved (s : State) (reserved : 9#4 ≤ s.phaseCnt) : FaultCause .drvSel s (.phaseCounterReserved s)
  | toggleSpent (s : State) (spent : s.toggleCnt = 0#8) : FaultCause .schPoll s (.toggleCounterZero s)

/-- An operation that finds its reserved value faults. -/
theorem exec_of_faultCause {i : Instr} {s : State} {f : Fault} (h : FaultCause i s f) : exec i s = .fault f := by
  cases h with
  | settleSpent _ spent => exact exec_setPoll_spent spent
  | phaseReserved _ reserved => exact exec_drvSel_reserved reserved
  | toggleSpent _ spent => exact exec_schPoll_spent spent

/-- An operation completes unless it finds its reserved value. -/
theorem effect_or_faultCause (i : Instr) (s : State) : (∃ t, Effect i s t) ∨ ∃ f, FaultCause i s f := by
  cases i with
  | setPoll =>
    by_cases hcnt : s.settleCnt = 0#8
    · exact .inr ⟨_, .settleSpent s hcnt⟩
    · cases htog : s.toggled with
      | true => exact .inl ⟨_, .settleToggle s hcnt htog⟩
      | false => exact .inl ⟨_, .settleStill s hcnt htog⟩
  | drvSel =>
    by_cases hcnt : 9#4 ≤ s.phaseCnt
    · exact .inr ⟨_, .phaseReserved s hcnt⟩
    · exact .inl ⟨_, .select s (by bv_omega)⟩
  | drvOff => exact .inl ⟨_, .off s⟩
  | drvLvl => exact .inl ⟨_, .level s⟩
  | drvEn => exact .inl ⟨_, .enable s⟩
  | schPoll =>
    by_cases hcnt : s.toggleCnt = 0#8
    · exact .inr ⟨_, .toggleSpent s hcnt⟩
    · cases htog : s.toggled with
      | true => exact .inl ⟨_, .pollToggle s hcnt htog⟩
      | false => exact .inl ⟨_, .pollStill s hcnt htog⟩
  | schStep => exact .inl ⟨_, .maskStep s⟩
  | reset => exact .inl ⟨_, .reset s⟩

/-- A step whose operation finds its reserved value faults. -/
theorem step_of_faultCause {s : State} {i : Instr} {f : Fault} (hd : decode s.opw = .ok i) (hf : FaultCause i s f) :
    step s = .fault f := by
  rw [step_of_decode hd, exec_of_faultCause hf, finishStep]

/-- A step completes, or its operation finds its reserved value, or its word is the reserved one. -/
theorem step_cases (s : State) :
    (∃ t, step s = .next t) ∨ (∃ i f, decode s.opw = .ok i ∧ FaultCause i s f ∧ step s = .fault f) ∨
      (s.rst = false ∧ s.ctrlState = 0b111#3 ∧ step s = .fault (.reservedCtrlState s)) := by
  cases hd : decode s.opw with
  | ok i =>
    obtain ⟨t, he⟩ | ⟨f, hf⟩ := effect_or_faultCause i s
    · exact .inl ⟨_, step_of_exec hd (exec_of_effect he)⟩
    · exact .inr (.inl ⟨i, f, rfl, hf, step_of_faultCause hd hf⟩)
  | error e =>
    have table : ∀ (r : Bool) (c : CtrlCode), (decode (opwOf r c)).toOption = none → r = false ∧ c = 0b111#3 := by decide
    obtain ⟨hrst, hc⟩ := table s.rst s.ctrlState (by rw [← State.opw, hd]; rfl)
    exact .inr (.inr ⟨hrst, hc, step_reserved hc hrst⟩)

/-- No step is refused: every operation of the table has its meaning. -/
theorem step_ne_refused (s : State) (r : Refusal) : step s ≠ .refused r := by
  intro hr
  obtain ⟨t, ht⟩ | ⟨_, f, -, -, hf⟩ | ⟨-, -, hf⟩ := step_cases s
  · cases ht.symm.trans hr
  · cases hf.symm.trans hr
  · cases hf.symm.trans hr

/-- From a state that meets the invariant every step completes (R200). -/
theorem Inv.exists_step {s : State} (h : Inv s) : ∃ t, Machine.step s = .next t := by
  obtain ⟨i, hd⟩ := h.exists_decode
  obtain ⟨u, he⟩ := h.exists_effect hd
  exact ⟨_, step_of_exec hd (exec_of_effect he)⟩

/-- From a state that meets the invariant every run completes, and keeps it (R200). -/
theorem Inv.exists_runWith {s : State} (h : Inv s) (is : List Input) : ∃ t, Machine.runWith is s = .next t ∧ Inv t := by
  induction is generalizing s with
  | nil => exact ⟨s, rfl, h⟩
  | cons i is ih =>
    obtain ⟨op, t, hp⟩ := h.exists_performs i
    rw [runWith_cons_of_step hp.stepped]
    exact ih (hp.inv h)

/-- Settles O30: power-up meets the invariant, and from there every run completes. -/
theorem noRunFaults : Obligations.NoRunFaults := ⟨rfl, fun b => (inv_powerUp b).exists_runWith⟩

/-- Settles O4: without reset the word is the reserved one, and reset is decoded first. -/
theorem reservedCtrlStateFaults : Obligations.ReservedCtrlStateFaults := fun s hc =>
  ⟨step_reserved hc, fun hrst => step_of_decode (by rw [decode_opw, if_pos hrst])⟩

/-- Settles O31: a step that faults met one of the four causes, and its word then gives `RST` and the controller state. -/
theorem faultsExactlyInReservedStates : Obligations.FaultsExactlyInReservedStates := by
  refine ⟨fun s f => ⟨fun hfault => ?found, ?raised⟩, step_ne_refused, fun s f h hfault => ?safe⟩
  case found =>
    obtain ⟨t, ht⟩ | ⟨i, g, hd, hcause, hg⟩ | ⟨hrst, hc, hg⟩ := step_cases s
    · cases ht.symm.trans hfault
    · cases hg.symm.trans hfault
      have hrst : i ≠ .reset → s.rst = false := fun hi => Bool.eq_false_iff.2 (mt (rst_iff_of_decode hd).1 hi)
      cases hcause with
      | settleSpent _ spent => exact ⟨hrst nofun, .inr (.inr (.inl ⟨ctrlState_of_decode hd nofun, spent, rfl⟩))⟩
      | phaseReserved _ reserved => exact ⟨hrst nofun, .inr (.inl ⟨ctrlState_of_decode hd nofun, reserved, rfl⟩)⟩
      | toggleSpent _ spent => exact ⟨hrst nofun, .inr (.inr (.inr ⟨ctrlState_of_decode hd nofun, spent, rfl⟩))⟩
    · cases hg.symm.trans hfault
      exact ⟨hrst, .inl ⟨hc, rfl⟩⟩
  case raised =>
    rintro ⟨hrst, ⟨hc, rfl⟩ | ⟨hc, hcnt, rfl⟩ | ⟨hc, hcnt, rfl⟩ | ⟨hc, hcnt, rfl⟩⟩
    · exact step_reserved hc hrst
    · exact step_of_faultCause (by rw [decode_opw, hrst, hc]; rfl) (.phaseReserved s hcnt)
    · exact step_of_faultCause (by rw [decode_opw, hrst, hc]; rfl) (.settleSpent s hcnt)
    · exact step_of_faultCause (by rw [decode_opw, hrst, hc]; rfl) (.toggleSpent s hcnt)
  case safe =>
    obtain ⟨t, ht⟩ := h.exists_step
    cases ht.symm.trans hfault

end Sys2Proof.Machine
end

section
/-!
PROOFS. `RESET` from every state, and the clamp of `SETTLE_RAW` (spec/70_reset_and_hazards.md R230, R235).
-/

namespace Sys2Proof

/-- The value of `SETTLE_TOGGLES` as R12 writes it: the bound the raw value is past, else the raw value. -/
theorem Config.settleToggles_eq_clamp (c : Config) :
    (c.settleToggles.toNat : Int) = if c.settleRaw < 1 then 1 else if c.settleRaw > 255 then 255 else c.settleRaw := by
  rw [c.settleToggles_toNat]
  split_ifs with below above
  · omega
  · omega
  · omega

/-- The clamp keeps exactly the raw values in range. -/
theorem Config.settleToggles_eq_settleRaw_iff (c : Config) :
    (c.settleToggles.toNat : Int) = c.settleRaw ↔ ¬ (c.settleRaw < 1 ∨ 255 < c.settleRaw) := by
  rw [c.settleToggles_toNat]
  omega

/-- The flag is the range check of R235. -/
theorem Config.clamped_iff (c : Config) : c.clamped = true ↔ c.settleRaw < 1 ∨ 255 < c.settleRaw := decide_eq_true_iff

end Sys2Proof

namespace Sys2Proof.Machine

/-- Settles O2: the reset bit alone decides the word, and `RESET` has one effect, with the free draw in `LAT`. -/
theorem resetLoadsEveryRegister : Obligations.ResetLoadsEveryRegister :=
  ⟨fun c => decode_of_opwRst (opwRst_opwOf true c), fun s => ⟨Config.freeLat s.drawNo, exec_of_effect (.reset s)⟩⟩

/-- Settles O5: the clamp in R12's form, and the raw values it changes are the ones out of range, which the flag marks. -/
theorem settleTogglesClamped : Obligations.SettleTogglesClamped := fun c =>
  ⟨c.settleToggles_eq_clamp, by rw [c.clamped_iff, Ne, c.settleToggles_eq_settleRaw_iff, not_not]⟩

end Sys2Proof.Machine
end

section
/-!
PROOFS. The step lemmas and base cases of the two invariants as statements of their own (spec/10_state.md R49, spec/20_memory.md R80,
spec/60_exceptions.md R200), and what every run keeps of the configuration (R43).
-/

namespace Sys2Proof.Machine

/-- Settles O29: in a state that meets the invariant the word's operation completes, and every effect keeps the invariant. -/
theorem stepKeepsInvariant : Obligations.StepKeepsInvariant := by
  intro s h
  obtain ⟨t, hstep⟩ := h.exists_step
  exact ⟨t, hstep, h.step hstep⟩

/-- Settles O37: every effect appends its events in place, and the invariant names the vectors `DRV.OFF` and `DRV.EN` write. -/
theorem stepKeepsHistoryOrdered : Obligations.StepKeepsHistoryOrdered :=
  fun _ _ hs hhistory hstep => hhistory.step hs hstep

/-- Settles O28: `State.reset` is the power-up of one board. -/
theorem invariantHoldsAtReset : Obligations.InvariantHoldsAtReset := ⟨inv_powerUp Config.board, inv_powerUp⟩

/-- Settles O36: `State.reset` is the power-up of one board. -/
theorem historyOrderedAtReset : Obligations.HistoryOrderedAtReset :=
  ⟨historyInv_powerUp Config.board, historyInv_powerUp⟩

/-- Settles O25: no operation writes the board, and neither do the inputs. -/
theorem configurationNeverChanges : Obligations.ConfigurationNeverChanges := fun _ _ _ => board_of_runWith

end Sys2Proof.Machine
end

section
/-!
PROOFS. The latch's draw at a reset is not observable (spec/10_state.md R38): a latch that differs stays out of sight until the next
reset or the levels of a lit refresh overwrite it.
-/

namespace Sys2Proof.Machine

/-- Every operation but `DRV.LVL` and `RESET`, which write the latch, does the same with any other latch. -/
theorem Effect.with_lat {i : Instr} {s t : State} (h : Effect i s t) (hlvl : i ≠ .drvLvl) (hreset : i ≠ .reset)
    (v : Byte) : Effect i { s with lat := v } { t with lat := v } := by
  cases h with
  | settleToggle _ alive toggle => exact .settleToggle { s with lat := v } alive toggle
  | settleStill _ alive still => exact .settleStill { s with lat := v } alive still
  | select _ legal => exact .select { s with lat := v } legal
  | off => exact .off { s with lat := v }
  | level => exact absurd rfl hlvl
  | enable => exact .enable { s with lat := v }
  | pollToggle _ alive toggle => exact .pollToggle { s with lat := v } alive toggle
  | pollStill _ alive still => exact .pollStill { s with lat := v } alive still
  | maskStep => exact .maskStep { s with lat := v }
  | reset => exact absurd rfl hreset

/-- An operation that writes the latch leaves nothing of the latch it found. -/
theorem Effect.overwrites_lat {i : Instr} {s t : State} (h : Effect i s t) (hwrites : i = .drvLvl ∨ i = .reset)
    (v : Byte) : Effect i { s with lat := v } t := by
  cases h with
  | level => exact .level { s with lat := v }
  | reset => exact .reset { s with lat := v }
  | _ => simp at hwrites

/-- With every line an input, every operation but `DRV.EN` leaves every line an input. -/
theorem Effect.keeps_off {i : Instr} {s t : State} (h : Effect i s t) (hen : i ≠ .drvEn)
    (hdir : s.dir = offVec) (hshadow : s.dirShadow = offVec) : t.dir = offVec ∧ t.dirShadow = offVec := by
  by_cases hoff : i = .drvOff
  · subst hoff; cases h
    simp [hshadow, offVec_or]
  by_cases hreset : i = .reset
  · subst hreset; cases h
    exact ⟨rfl, rfl⟩
  · obtain ⟨hshadow', hdir'⟩ := h.direction_eq hreset hoff hen
    exact ⟨hdir'.trans hdir, hshadow'.trans hshadow⟩

/-- `DRV.LVL` alone leads to `DRV.EN` (spec/42_sequencer.md R180). -/
theorem Effect.ctrlState_ne_drvEn {i : Instr} {s t : State} (h : Effect i s t) (hlvl : i ≠ .drvLvl) :
    t.ctrlState ≠ sDrvEn := by
  cases h with
  | level => exact absurd rfl hlvl
  | settleToggle | off | pollToggle => rw [State.goto_ctrlState]; split <;> decide
  | _ => simp

theorem LatchAlike.refl (s : State) : LatchAlike s s := ⟨rfl, .inl rfl⟩

/-- The inputs presented depend on the board and the draw number, and not on the latch. -/
theorem LatchAlike.presentInputs {s t : State} (h : LatchAlike s t) : LatchAlike s.presentInputs t.presentInputs :=
  ⟨congrArg State.presentInputs h.1, h.2⟩

/-- Alike states are one state, or every line is an input and the latch alone differs. -/
theorem LatchAlike.cases {s t : State} (h : LatchAlike s t) :
    t = s ∨ ∃ v, t = { s with lat := v } ∧ s.dir = offVec ∧ s.dirShadow = offVec ∧ s.ctrlState ≠ sDrvEn := by
  obtain ⟨heq, hlat | hoff⟩ := h
  · rw [hlat] at heq
    exact .inl heq
  · exact .inr ⟨t.lat, heq, hoff⟩

/-- Alike states show the same pins: where the latch differs, no line shows it. -/
theorem LatchAlike.pin_eq {s t : State} (h : LatchAlike s t) (k : Fin 4) : s.pin k = t.pin k := by
  obtain rfl | ⟨v, rfl, hdir, -, -⟩ := h.cases
  · rfl
  · have hs : s.Dark := dark_of_dir hdir
    have ht : State.Dark { s with lat := v } := dark_of_dir hdir
    rw [hs k, ht k]

/-- Alike states have the same history. -/
theorem LatchAlike.history_eq {s t : State} (h : LatchAlike s t) : s.history = t.history := by rw [h.1]

/-- An operation other than `DRV.EN` takes states that differ out of sight to alike states. -/
theorem Effect.latchAlike {i : Instr} {s t : State} (h : Effect i s t) (hen : i ≠ .drvEn) (hdir : s.dir = offVec)
    (hshadow : s.dirShadow = offVec) (v : Byte) : ∃ t', Effect i { s with lat := v } t' ∧ LatchAlike t t' := by
  by_cases hwrites : i = .drvLvl ∨ i = .reset
  · exact ⟨t, h.overwrites_lat hwrites v, .refl t⟩
  · obtain ⟨hlvl, hreset⟩ := not_or.1 hwrites
    obtain ⟨hdir', hshadow'⟩ := h.keeps_off hen hdir hshadow
    exact ⟨_, h.with_lat hlvl hreset v, rfl, .inr ⟨hdir', hshadow', h.ctrlState_ne_drvEn hlvl⟩⟩

/-- Alike states, one of which meets the invariant, step to alike states. -/
theorem LatchAlike.step {s t : State} (hs : Inv s) (h : LatchAlike s t) :
    ∃ s' t', step s = .next s' ∧ Machine.step t = .next t' ∧ LatchAlike s' t' := by
  obtain rfl | ⟨v, rfl, hdir, hshadow, hc⟩ := h.cases
  · obtain ⟨s', hstep⟩ := hs.exists_step
    exact ⟨s', s', hstep, hstep, .refl s'⟩
  · obtain ⟨i, hd⟩ := hs.exists_decode
    have hen : i ≠ .drvEn := by
      rintro rfl
      exact hc (ctrlState_of_decode hd nofun)
    obtain ⟨u, he⟩ := hs.exists_effect hd
    obtain ⟨u', he', halike⟩ := he.latchAlike hen hdir hshadow v
    exact ⟨_, _, step_of_exec hd (exec_of_effect he), step_of_exec hd (exec_of_effect he'), halike.presentInputs⟩

/-- Settles O39: a reset leaves every line an input, and from there a latch that differs is out of sight at every step. -/
theorem latchDrawUnobservable : Obligations.LatchDrawUnobservable := by
  refine ⟨fun s t v hexec => ?_, fun s t hs h => ⟨h.pin_eq, h.history_eq, h.step hs⟩⟩
  cases exec_effect hexec
  exact ⟨rfl, .inr ⟨rfl, rfl, by simp⟩⟩

end Sys2Proof.Machine
end

section
/-!
PROOFS. What the operations leave alone: the lines outside `SHARED_MASK` (spec/10_state.md R36, spec/20_memory.md R71), and the mask
where it is not read (R32, spec/40_driver.md R123).
-/

namespace Sys2Proof

/-- The pair of a phase is made of shared lines. -/
theorem Config.pair_getLsbD_of_unshared {c : Config} {j : Nat} (h : c.sharedMask.getLsbD j = false) (p : Fin 8) :
    (c.pair p).getLsbD j = false := by
  rw [c.sharedMask_getLsbD, decide_eq_false_iff_not, not_exists] at h
  simp [c.pair_getLsbD, h]

end Sys2Proof

namespace Sys2Proof.Machine

/-- Settles O26: `DRV.OFF` and `RESET` set direction bits, `DRV.EN` clears a pair's alone, and no other operation writes them. -/
theorem unsharedLinesStayInputs : Obligations.UnsharedLinesStayInputs := by
  intro i s t j hexec hunshared hshadow hdir
  have he : Effect i s t := exec_effect hexec
  by_cases hoff : i = .drvOff
  · subst hoff; cases he
    simp [hshadow]
  by_cases hen : i = .drvEn
  · subst hen; cases he
    have hpair := Config.pair_getLsbD_of_unshared hunshared s.phase
    simpa [hshadow] using hpair
  by_cases hreset : i = .reset
  · subst hreset; cases he
    have hone : (0xFF#8).getLsbD j = true := by rw [← offVec, offVec_getLsbD, decide_eq_true j.isLt]
    exact ⟨hone, hone⟩
  · obtain ⟨hshadow', hdir'⟩ := he.direction_eq hreset hoff hen
    rw [hshadow', hdir']
    exact ⟨hshadow, hdir⟩

/-- Settles O27: the effects of the operations that do not read the mask carry any mask along. -/
theorem maskReadOncePerRefresh : Obligations.MaskReadOncePerRefresh := by
  intro i s t m hsel hstep hreset hexec
  have he : Effect i s t := exec_effect hexec
  refine exec_of_effect ?_
  cases he with
  | settleToggle _ alive toggle => exact .settleToggle { s with mask := m } alive toggle
  | settleStill _ alive still => exact .settleStill { s with mask := m } alive still
  | select => exact absurd rfl hsel
  | off => exact .off { s with mask := m }
  | level => exact .level { s with mask := m }
  | enable => exact .enable { s with mask := m }
  | pollToggle _ alive toggle => exact .pollToggle { s with mask := m } alive toggle
  | pollStill _ alive still => exact .pollStill { s with mask := m } alive still
  | maskStep => exact absurd rfl hstep
  | reset => exact absurd rfl hreset

end Sys2Proof.Machine
end

section
/-!
PROOFS. The length of the settle wait (spec/41_scheduler.md R150, R152, R155; spec/60_exceptions.md R210): the settle count and the
toggles the samples show balance, and fair samples show any number of them.
-/

namespace Sys2Proof.Machine

/-- The toggles of samples in two parts: the second part is compared with the last sample before it. -/
theorem togglesIn_append (last : Bool) (bs cs : List Bool) :
    togglesIn last (bs ++ cs) = togglesIn last bs + togglesIn (bs.getLastD last) cs := by
  induction bs generalizing last with
  | nil => simp [togglesIn]
  | cons b bs ih => rw [List.cons_append, togglesIn, togglesIn, ih, List.getLastD_cons, Nat.add_assoc]

/-- One more sample shows a toggle when it differs from the sample before it. -/
theorem togglesIn_concat (last : Bool) (bs : List Bool) (b : Bool) :
    togglesIn last (bs ++ [b]) = togglesIn last bs + if b = bs.getLastD last then 0 else 1 := by
  rw [togglesIn_append]; rfl

/-- `SET.POLL` leaves its sample in `LAST_MSB`, and a settle count that is one less for a toggle (R150). -/
theorem Performs.setPoll_counts {i : Input} {s t : State} (h : Performs i .setPoll s t) :
    t.lastMsb = i.bit s.board.config ∧
      t.settleCnt.toNat + (if i.bit s.board.config = s.lastMsb then 0 else 1) = s.settleCnt.toNat := by
  obtain ⟨u, he, rfl⟩ := h.effect
  cases he with
  | settleToggle _ alive toggle =>
    have hbit : i.bit s.board.config ≠ s.lastMsb := by simpa [State.toggled, Input.bit] using toggle
    rw [if_neg hbit]
    simp [Input.bit] at alive ⊢
    bv_omega
  | settleStill _ alive still =>
    have hbit : i.bit s.board.config = s.lastMsb := by simpa [State.toggled, Input.bit] using still
    exact ⟨hbit.symm, by rw [if_pos hbit]; rfl⟩

/-- While the samples show fewer toggles than the settle count, the block samples on: the count goes down by the toggles, and
`LAST_MSB` holds the last sample. -/
theorem runs_settle {s : State} {is : List Input} (hs : Inv s) (hq : Quiet is) (hc : s.ctrlState = sSettle)
    (hfew : togglesIn s.lastMsb (is.map (Input.bit s.board.config)) < s.settleCnt.toNat) :
    ∃ t, Runs is (settleOps is.length) s t ∧ t.ctrlState = sSettle ∧
      t.settleCnt.toNat + togglesIn s.lastMsb (is.map (Input.bit s.board.config)) = s.settleCnt.toNat ∧
      t.lastMsb = (is.map (Input.bit s.board.config)).getLastD s.lastMsb := by
  induction is generalizing s with
  | nil => exact ⟨s, .nil s, hc, rfl, rfl⟩
  | cons i is ih =>
    obtain ⟨hi, his⟩ := List.forall_mem_cons.1 hq
    obtain ⟨u, hu⟩ := hs.exists_performs_of_ctrl (op := .setPoll) hi (by rw [hc]; rfl)
    obtain ⟨hlast, hcnt⟩ := hu.setPoll_counts
    rw [List.map_cons, togglesIn] at hfew ⊢
    have hleft : u.settleCnt ≠ 0#8 := by
      intro h0
      rw [h0, BitVec.toNat_zero] at hcnt
      omega
    have hrest := ih (hu.inv hs) his ((hu.inv hs).settleWaits.2 hleft)
    rw [hlast, hu.board_eq] at hrest
    obtain ⟨t, hrun, hct, hbalance, hlast'⟩ := hrest (by omega)
    exact ⟨t, .cons hu hrun, hct, by omega, by rw [hlast', List.getLastD_cons]⟩

/-- The sample that shows the last toggle of the settle count ends the wait. -/
theorem runs_settle_last {s : State} {js : List Input} {i : Input} (hs : Inv s) (hq : Quiet (js ++ [i]))
    (hc : s.ctrlState = sSettle) (hfew : togglesIn s.lastMsb (js.map (Input.bit s.board.config)) < s.settleCnt.toNat)
    (hall : togglesIn s.lastMsb ((js ++ [i]).map (Input.bit s.board.config)) = s.settleCnt.toNat) :
    ∃ t, Runs (js ++ [i]) (settleOps (js ++ [i]).length) s t ∧ t.ctrlState = sDrvSel ∧ t.settleCnt = 0#8 := by
  obtain ⟨hjs, hi⟩ := List.forall_mem_append.1 hq
  obtain ⟨u, hrun, hcu, hbalance, hlast⟩ := runs_settle hs hjs hc hfew
  have hu : Inv u := hs.runWith hrun.ends
  obtain ⟨t, ht⟩ := hu.exists_performs_of_ctrl (op := .setPoll) (hi i (by simp)) (by rw [hcu]; rfl)
  obtain ⟨-, hcnt⟩ := ht.setPoll_counts
  obtain ⟨-, hct⟩ := ht.setPoll
  have hspent : t.settleCnt = 0#8 := by
    rw [board_of_runWith hrun.ends] at hcnt
    rw [List.map_append, List.map_singleton, togglesIn_concat, ← hlast] at hall
    exact BitVec.eq_of_toNat_eq (by rw [BitVec.toNat_zero]; omega)
  have hleft : t.ctrlState ≠ sSettle := fun h => (ht.inv hu).settleWaits.1 h hspent
  have hrun' := hrun.append (.cons ht (.nil t))
  refine ⟨t, ⟨?_, hrun'.ends⟩, hct.trans (if_pos (by_contra fun h => hleft (hct.trans (if_neg h)))), hspent⟩
  rw [hrun'.performed, List.length_append, settleOps, settleOps, List.replicate_add]
  rfl

/-- Settles O44: the run of the samples, and the last of them. -/
theorem settleWaitCountsToggles : Obligations.SettleWaitCountsToggles := by
  intro s is hs hc hq
  refine ⟨fun hfew => ?waits, ?ends⟩
  case waits =>
    obtain ⟨t, hrun, hct, hbalance, -⟩ := runs_settle hs hq hc hfew
    exact ⟨hrun.performed, t, hrun.ends, hct, by omega⟩
  case ends =>
    rintro js i rfl hfew hall
    obtain ⟨t, hrun, hct, hcnt⟩ := runs_settle_last hs hq hc hfew hall
    exact ⟨hrun.performed, t, hrun.ends, hct, hcnt⟩

/-- The toggles of the first samples of a sequence: the next one adds one when it differs from the sample before it. -/
theorem togglesIn_range_succ (b : Nat → Bool) (last : Bool) (n : Nat) :
    togglesIn last ((List.range (n + 1)).map b) = togglesIn last ((List.range n).map b) +
      if b n = ((List.range n).map b).getLastD last then 0 else 1 := by
  rw [List.range_succ, List.map_append, List.map_singleton, togglesIn_concat]

theorem togglesIn_range_mono (b : Nat → Bool) (last : Bool) :
    Monotone fun n => togglesIn last ((List.range n).map b) :=
  monotone_nat_of_le_succ fun n => by rw [togglesIn_range_succ]; exact Nat.le_add_right _ _

/-- Fair samples show any number of toggles. -/
theorem Fair.exists_le_togglesIn {b : Nat → Bool} (hfair : Fair b) (last : Bool) (k : Nat) :
    ∃ n, k ≤ togglesIn last ((List.range n).map b) := by
  induction k with
  | zero => exact ⟨0, Nat.zero_le _⟩
  | succ k ih =>
    obtain ⟨n, hn⟩ := ih
    obtain ⟨m, hnm, htoggle⟩ := hfair n
    have hgrown : togglesIn last ((List.range n).map b) ≤ togglesIn last ((List.range (m + 1)).map b) :=
      togglesIn_range_mono b last (by omega)
    have hbefore : ((List.range (m + 1)).map b).getLastD last = b m := by simp [List.range_succ]
    refine ⟨m + 2, ?_⟩
    rw [togglesIn_range_succ, hbefore, if_neg htoggle]
    omega

/-- Some sample of a fair sequence shows the k-th toggle. -/
theorem Fair.exists_last_toggle {b : Nat → Bool} (hfair : Fair b) (last : Bool) {k : Nat} (hk : 0 < k) :
    ∃ m, togglesIn last ((List.range m).map b) < k ∧ togglesIn last ((List.range (m + 1)).map b) = k := by
  have hex := hfair.exists_le_togglesIn last k
  obtain ⟨m, hm⟩ : ∃ m, Nat.find hex = m + 1 := by
    refine Nat.exists_eq_succ_of_ne_zero fun h0 => ?_
    have hfirst := h0 ▸ Nat.find_spec hex
    exact absurd hfirst (Nat.not_le.2 hk)
  have hfew := Nat.not_le.1 (Nat.find_min hex (m := m) (by omega))
  have hreached := hm ▸ Nat.find_spec hex
  refine ⟨m, hfew, Nat.le_antisymm ?_ hreached⟩
  rw [togglesIn_range_succ]
  split <;> omega

/-- Settles O46: a fair sequence shows the last toggle of the settle count with some sample, and the run up to it ends the wait. -/
theorem settleWaitEndsWhenFair : Obligations.SettleWaitEndsWhenFair := by
  intro s inputs hs hc hquiet hfair
  have hbits : ∀ n, ((List.range n).map inputs).map (Input.bit s.board.config) =
      (List.range n).map fun n => (inputs n).bit s.board.config := fun n => List.map_map
  have hpos : 0 < s.settleCnt.toNat :=
    Nat.pos_of_ne_zero fun h0 => hs.settleWaits.1 hc (BitVec.eq_of_toNat_eq h0)
  obtain ⟨m, hfew, hall⟩ := hfair.exists_last_toggle s.lastMsb hpos
  have hsplit : (List.range (m + 1)).map inputs = (List.range m).map inputs ++ [inputs m] := by
    rw [List.range_succ, List.map_append, List.map_singleton]
  have hq : Quiet ((List.range (m + 1)).map inputs) := List.forall_mem_map.2 fun n _ => hquiet n
  rw [← hbits] at hfew hall
  rw [hsplit] at hall hq
  obtain ⟨t, hrun, hct, -⟩ := runs_settle_last hs hq hc hfew hall
  exact ⟨m + 1, t, hsplit ▸ hrun.ends, hct⟩

end Sys2Proof.Machine
end

section
/-!
PROOFS. The way to the next refresh (spec/42_sequencer.md R182, R184, spec/40_driver.md R138): every step brings the block nearer to its
next `DRV.SEL`.
-/

namespace Sys2Proof.Machine

/-- The most steps before the next `DRV.SEL`: after it the controller states are passed in the order of their codes, 2 to 6. -/
def stepsToSelect (c : CtrlCode) : Nat := if c = sDrvSel then 0 else 7 - c.toNat

/-- Outside the settle wait, a step other than `DRV.SEL` brings the next `DRV.SEL` nearer. -/
theorem Performs.stepsToSelect_lt {i : Input} {op : Instr} {s t : State} (h : Performs i op s t) (hreset : op ≠ .reset)
    (hsel : op ≠ .drvSel) (hc : s.ctrlState ≠ sSettle) :
    t.ctrlState ≠ sSettle ∧ stepsToSelect t.ctrlState < stepsToSelect s.ctrlState := by
  have hs := ctrlState_of_decode h.decoded hreset
  rw [State.withInputs_ctrlState] at hs
  obtain ⟨u, he, rfl⟩ := h.effect
  rw [State.presentInputs_ctrlState, hs]
  cases he with
  | settleToggle => exact absurd hs hc
  | settleStill => exact absurd hs hc
  | select => exact absurd rfl hsel
  | off => rw [State.goto_ctrlState]; split <;> decide
  | level => rw [State.goto_ctrlState]; decide
  | enable => rw [State.goto_ctrlState]; decide
  | pollToggle => rw [State.goto_ctrlState]; split <;> decide
  | pollStill => rw [State.goto_ctrlState]; decide
  | maskStep => rw [State.goto_ctrlState]; decide
  | reset => exact absurd rfl hreset

/-- A run of more steps than the way to the next `DRV.SEL` performs it. -/
theorem drvSel_mem_opsOf {is : List Input} {s : State} (hs : Inv s) (hq : Quiet is) (hc : s.ctrlState ≠ sSettle)
    (hlen : stepsToSelect s.ctrlState < is.length) : .drvSel ∈ opsOf is s := by
  induction is, s, hs, hq using quiet_run_induction with
  | nil s => exact absurd hlen (Nat.not_lt_zero _)
  | cons i is op s t hs hq hp hreset ih =>
    rw [opsOf_cons_of_step hp.decoded hp.stepped, List.mem_cons]
    by_cases hsel : op = .drvSel
    · exact .inl hsel.symm
    · obtain ⟨hct, hnear⟩ := hp.stepsToSelect_lt hreset hsel hc
      exact .inr (ih hct (Nat.lt_of_lt_of_le hnear (Nat.le_of_lt_succ hlen)))

/-- Settles O51: the longest way to `DRV.SEL` outside the settle wait is the five steps from `DRV.OFF`. -/
theorem refreshWithinSixSteps : Obligations.RefreshWithinSixSteps := by
  intro s is hs hc hq hlen
  have hway : ∀ c : CtrlCode, c ≠ sSettle → stepsToSelect c < 6 := by decide
  exact drvSel_mem_opsOf hs hq hc (hlen ▸ hway s.ctrlState hc)

end Sys2Proof.Machine
end

section
/-!
PROOFS. The operation word, its rows and its two fields (spec/30_encoding.md R96, R99), and what a step makes of it
(spec/42_sequencer.md R181), with reset before every other operation (spec/60_exceptions.md R206); and the reset values
(spec/10_state.md section 1).
-/

namespace Sys2Proof

/-- The two fields of a word make up the word. -/
theorem opwOf_fields : ∀ w : Opw, opwOf (opwRst w) (opwCtrl w) = w := by decide

/-- Every word but the reserved one names an operation (R99). -/
theorem exists_decode_iff_legal (w : Opw) : w.Legal ↔ ∃ i, decode w = .ok i := by
  refine ⟨fun hlegal => ?_, ?_⟩
  · have table : ∀ w : Opw, w.Legal → (decode w).toBool = true := by decide
    have hok := table w hlegal
    cases hd : decode w with
    | ok i => exact ⟨i, rfl⟩
    | error e => rw [hd] at hok; cases hok
  · rintro ⟨i, hd⟩ rfl
    cases hd

/-- Settles O8: the encoding statement of each operation, and the reserved word apart every word is named. -/
theorem wordsMatchOneRow : Obligations.WordsMatchOneRow := by
  refine ⟨fun w i => ?_, exists_decode_iff_legal⟩
  obtain ⟨-, -, -, hrow⟩ := encoding_statement i
  exact (hrow w).symm

end Sys2Proof

namespace Sys2Proof.Machine

/-- Settles O1: power-up writes each value, on the board with the spec's defaults. -/
theorem resetRegisterValues : Obligations.ResetRegisterValues :=
  ⟨rfl, rfl, rfl, rfl, rfl, rfl, rfl, rfl, rfl, rfl, rfl, rfl, rfl, rfl⟩

/-- Settles O3: with `RST` the word is one of `RESET`'s eight, whose one effect leaves every line an input. -/
theorem resetOverridesTheOperation : Obligations.ResetOverridesTheOperation := by
  intro s hrst
  have hd : decode s.opw = .ok .reset := by rw [decode_opw, if_pos hrst]
  exact ⟨step_of_decode hd, _, step_of_exec hd (exec_of_effect (.reset s)), rfl, rfl, dark_of_dir rfl, rfl⟩

/-- Settles O9: both fields are read back from the word, and a word placed is put together again from its fields. -/
theorem operationWordHoldsBothFields : Obligations.OperationWordHoldsBothFields := fun s =>
  ⟨opwRst_opwOf s.rst s.ctrlState, opwCtrl_opwOf s.rst s.ctrlState, opwOf_fields⟩

/-- Settles O12: the step of the decoded operation, with the inputs presented after each of the three outcomes. -/
theorem stepRunsTheDecodedOperation : Obligations.StepRunsTheDecodedOperation := by
  intro s i hd
  rw [step_of_decode hd]
  cases exec i s with
  | next t => rfl
  | fault f => rfl
  | refused r => rfl

end Sys2Proof.Machine
end
